-- ==== Sys2Proof/Word.lean ====
section
/-!
DEFINITION. The two word types of the block (00_scope.md R9, R10).
-/

namespace Sys2Proof

/-- A byte, `u8` (00_scope.md R10). -/
abbrev Byte := BitVec 8

/-- A 32-bit word, `u32`: a register, a command word, a CRC (00_scope.md R9). -/
abbrev Word := BitVec 32

end Sys2Proof
end

