-- ==== Sys2Proof/Config.lean ====
section
/-!
DEFINITION. The parameters the hardware fixes (00_scope.md R8) and the free values of the spec
(93_implementation_defined.md): constants without a body, of which nothing can be proved.
-/

namespace Sys2Proof.Config

/-- BUF_SIZE, the payload buffer in bytes (00_scope.md R8, 10_state.md R30). -/
def bufSize : Nat := 252

/-- The polynomial in forward form (00_scope.md R2, R8). -/
def crcPoly : Word := 0x04C11DB7#32

/-- The initial running register (00_scope.md R8). -/
def crcInit : Word := 0xFFFFFFFF#32

/-- HDR_MARKER, the ASCII bytes `mess=` (00_scope.md R8). -/
def hdrMarker : List Byte := [0x6D#8, 0x65#8, 0x73#8, 0x73#8, 0x3D#8]

/-- MASK_MARKER, the ASCII bytes `mask=` (00_scope.md R8). -/
def maskMarker : List Byte := [0x6D#8, 0x61#8, 0x73#8, 0x6B#8, 0x3D#8]

/-- The byte a BUF location holds from power-on until it is written: any value, drawn once per location and
not drawn again by a later reset (93_implementation_defined.md U1, 10_state.md R30). Free value, log 3. -/
opaque powerOnByte : Nat → Byte

/-- The value of the `n`-th host read of a register other than STATUS while BUSY = 1: any value, a fresh draw
per read (20_memory.md R67(b), 93_implementation_defined.md U3). Free value, log 6. -/
opaque busyRead : Nat → Word

/-- CORE_BASE, where the host places the register space; no rule depends on it (20_memory.md R68, log 9). -/
opaque coreBase : Nat

end Sys2Proof.Config
end

