-- ==== Sys2Proof/Syntax.lean ====
section
/-!
DEFINITION. The commands, one constructor per row of the opcode table, in its order (30_encoding.md R93).
Operand fields have the widths of their bits (30_encoding.md R91, R92).
-/

namespace Sys2Proof

/-- The eighteen commands (30_encoding.md R93). -/
inductive Instr where
  /-- NOP (46_control.md R236). -/
  | nop
  /-- CLEAR (46_control.md R237). -/
  | clear
  /-- SRESET (46_control.md R238). -/
  | sreset
  /-- HEX.DPAIR chi, clo (41_hex_codec.md R115). -/
  | hexDpair (chi clo : Byte)
  /-- HEX.EPAIR imm8 (41_hex_codec.md R116). -/
  | hexEpair (imm : Byte)
  /-- HEX.DSTR len, cap (41_hex_codec.md R117). -/
  | hexDstr (len : BitVec 10) (cap : Byte)
  /-- CRC.INIT (42_crc32.md R138). -/
  | crcInit
  /-- CRC.BYTE imm8 (42_crc32.md R139). -/
  | crcByte (imm : Byte)
  /-- CRC.FINAL (42_crc32.md R140). -/
  | crcFinal
  /-- CRC.BUF (42_crc32.md R141). -/
  | crcBuf
  /-- FRM.DECODE (43_frame_decoder.md R170). -/
  | frmDecode
  /-- FRM.MASKRD (43_frame_decoder.md R171). -/
  | frmMaskrd
  /-- XF.VERIFY (44_transform.md R190). -/
  | xfVerify
  /-- XF.PAD (44_transform.md R192). -/
  | xfPad
  /-- XF.MASK (44_transform.md R194). -/
  | xfMask
  /-- XF.RECOMP (44_transform.md R196). -/
  | xfRecomp
  /-- FRM.ONE (45_pipeline.md R212). -/
  | frmOne
  /-- FRM.RUN (45_pipeline.md R214). -/
  | frmRun
deriving DecidableEq, Repr

end Sys2Proof
end

