-- ==== Sys2Proof/WellFormed.lean ====
section
/-!
DEFINITION. Which commands are legal (30_encoding.md R92, R94). The field types already bound IMM8, CHI, CLO and
LEN; the one check left is the capacity of HEX.DSTR.
-/

namespace Sys2Proof

/-- A command that some legal word encodes: CAP is at most 252 (30_encoding.md R94(c)). -/
def Instr.wellFormed : Instr → Bool
  | .hexDstr _ cap => decide (cap.toNat ≤ Config.bufSize)
  | .nop | .clear | .sreset | .hexDpair _ _ | .hexEpair _ | .crcInit | .crcByte _ | .crcFinal | .crcBuf => true
  | .frmDecode | .frmMaskrd | .xfVerify | .xfPad | .xfMask | .xfRecomp | .frmOne | .frmRun => true

end Sys2Proof
end

