-- ==== Sys2Proof/Decode.lean ====
section
/-!
DEFINITION. The decoder of command words, total and rejecting by name (30_encoding.md R90 to R95), and after it
the encoder, written from the same formats.
-/

namespace Sys2Proof

/-- Why a word is illegal (30_encoding.md R94). Each ends as IllegalCommand (60_exceptions.md R241). -/
inductive DecodeError where
  /-- R94(a): OP is not one of the 18 values. -/
  | unassignedOpcode
  /-- R94(b): a reserved bit of the format is 1. -/
  | reservedBitSet
  /-- R94(c): HEX.DSTR with CAP above 252. -/
  | capTooLarge
deriving DecidableEq, Repr

/-- OP, bits 31:24 (30_encoding.md R90). -/
def opField (w : Word) : Byte := w.extractLsb' 24 8
/-- IMM8 and CLO, bits 7:0 (30_encoding.md R91). -/
def immField (w : Word) : Byte := w.extractLsb' 0 8
/-- CHI, bits 15:8 (30_encoding.md R91). -/
def chiField (w : Word) : Byte := w.extractLsb' 8 8
/-- CAP, bits 23:16 (30_encoding.md R91). -/
def capField (w : Word) : Byte := w.extractLsb' 16 8
/-- LEN, bits 9:0 (30_encoding.md R91). -/
def lenField (w : Word) : BitVec 10 := w.extractLsb' 0 10

/-- The command if the format's reserved bits are clear (30_encoding.md R94(b)). -/
def ifClear {n : Nat} (reserved : BitVec n) (i : Instr) : Except DecodeError Instr :=
  if reserved = 0 then .ok i else .error .reservedBitSet

/-- Format N: bits 23:0 are reserved (30_encoding.md R91). -/
def formatN (w : Word) (i : Instr) : Except DecodeError Instr := ifClear (w.extractLsb' 0 24) i
/-- Format B: bits 23:8 are reserved (30_encoding.md R91). -/
def formatB (w : Word) (f : Byte → Instr) : Except DecodeError Instr :=
  ifClear (w.extractLsb' 8 16) (f (immField w))
/-- Format P: bits 23:16 are reserved (30_encoding.md R91). -/
def formatP (w : Word) (f : Byte → Byte → Instr) : Except DecodeError Instr :=
  ifClear (w.extractLsb' 16 8) (f (chiField w) (immField w))
/-- Format S: bits 15:10 are reserved, and CAP is at most 252 (30_encoding.md R91, R94(c)). -/
def formatS (w : Word) (f : BitVec 10 → Byte → Instr) : Except DecodeError Instr :=
  if Config.bufSize < (capField w).toNat then .error .capTooLarge
  else ifClear (w.extractLsb' 10 6) (f (lenField w) (capField w))

/-- The decode procedure: every word selects exactly one command with its fields, or is rejected
(30_encoding.md R93, R95). -/
def decode (w : Word) : Except DecodeError Instr :=
  match (opField w).toNat with
  | 0x00 => formatN w .nop
  | 0x01 => formatN w .clear
  | 0x02 => formatN w .sreset
  | 0x10 => formatP w .hexDpair
  | 0x11 => formatB w .hexEpair
  | 0x12 => formatS w .hexDstr
  | 0x20 => formatN w .crcInit
  | 0x21 => formatB w .crcByte
  | 0x22 => formatN w .crcFinal
  | 0x23 => formatN w .crcBuf
  | 0x30 => formatN w .frmDecode
  | 0x31 => formatN w .frmMaskrd
  | 0x40 => formatN w .xfVerify
  | 0x41 => formatN w .xfPad
  | 0x42 => formatN w .xfMask
  | 0x43 => formatN w .xfRecomp
  | 0x50 => formatN w .frmOne
  | 0x51 => formatN w .frmRun
  | _ => .error .unassignedOpcode

/-- What the decoder reads from the table's numbering of an instruction's bits. A command word has one length,
32 bits, and is written to CMD whole (30_encoding.md R90), so no byte order enters. -/
def decodeTableWord (nbits w : Nat) : Option Instr :=
  match decode (BitVec.ofNat 32 (w % 2 ^ nbits)) with
  | .ok i => some i
  | .error _ => none

/-- The word of a command: `OP << 24 | operand bits` (30_encoding.md R91, R93, R96). -/
def encode : Instr → Word
  | .nop => 0x00000000#32
  | .clear => 0x01000000#32
  | .sreset => 0x02000000#32
  | .hexDpair chi clo => 0x10#8 ++ 0#8 ++ chi ++ clo
  | .hexEpair imm => 0x11#8 ++ 0#16 ++ imm
  | .hexDstr len cap => 0x12#8 ++ cap ++ 0#6 ++ len
  | .crcInit => 0x20000000#32
  | .crcByte imm => 0x21#8 ++ 0#16 ++ imm
  | .crcFinal => 0x22000000#32
  | .crcBuf => 0x23000000#32
  | .frmDecode => 0x30000000#32
  | .frmMaskrd => 0x31000000#32
  | .xfVerify => 0x40000000#32
  | .xfPad => 0x41000000#32
  | .xfMask => 0x42000000#32
  | .xfRecomp => 0x43000000#32
  | .frmOne => 0x50000000#32
  | .frmRun => 0x51000000#32

end Sys2Proof
end

