-- ==== Sys2Proof/Machine/State.lean ====
section
/-!
DEFINITION. The state of the block and of its environment (10_state.md), the reasons a step can stop, and the
machine right after reset (10_state.md R50).
-/

namespace Sys2Proof.Machine

/-- The sequencer states of 10_state.md R40. Code 0xF is never used and has no constructor. -/
inductive SeqState where
  /-- 0x0, no command executing. -/
  | idle
  /-- 0x1, reading the `mess=` marker. -/
  | hdr
  /-- 0x2, ReadType. -/
  | type
  /-- 0x3, ReadLength. -/
  | len
  /-- 0x4, ReadPayload. -/
  | payload
  /-- 0x5, ReadChecksum. -/
  | cksum
  /-- 0x6, reading the `mask=` marker. -/
  | mhdr
  /-- 0x7, reading the mask value. -/
  | mval
  /-- 0x8, Verify. -/
  | verify
  /-- 0x9, Pad. -/
  | pad
  /-- 0xA, Mask. -/
  | mask
  /-- 0xB, Recompute. -/
  | recomp
  /-- 0xC, waiting for the sink. -/
  | emit
  /-- 0xD, HEX.DSTR reading characters. -/
  | hexstr
  /-- 0xE, executing what reads no input. -/
  | exec
deriving DecidableEq, Repr

/-- The error kinds of 60_exceptions.md R240. Codes 8 to 15 are never produced and have no constructor. -/
inductive ErrKind where
  /-- 1. -/
  | frameFormat
  /-- 2. -/
  | conversion
  /-- 3. -/
  | unexpectedLength
  /-- 4. -/
  | checksum
  /-- 5. -/
  | invalidLength
  /-- 6. -/
  | bufferTooSmall
  /-- 7. -/
  | illegalCommand
deriving DecidableEq, Repr

/-- The fields of STATUS (10_state.md R23). The word the host reads is `Status.word`. -/
structure Status where
  busy : Bool
  done : Bool
  err : Bool
  eosf : Bool
  ovr : Bool
  errstate : SeqState
deriving DecidableEq, Repr

/-- PRE or POST (10_state.md R47). -/
inductive SnapKind where
  | pre
  | post
deriving DecidableEq, Repr

/-- A snapshot record (10_state.md R47). -/
structure Snapshot where
  kind : SnapKind
  type : Byte
  payloadLength : Byte
  dataLength : Byte
  crc32 : Word
  data : List Byte
deriving DecidableEq, Repr

/-- The input port: the bytes of the stream not yet taken, whether end-of-input follows the last of them, and
the position, the number of bytes taken from this stream (10_state.md R20, R45, R46). -/
structure InPort where
  ahead : List Byte
  ended : Bool
  pos : Nat
deriving DecidableEq, Repr

/-- BUF as the bytes written since power-on, by index; an index that is not listed holds its power-on byte
(10_state.md R30, log 3). -/
abbrev Memory := List Host.Cell

/-- The canonical form: indices strictly rising, and all inside BUF. An unlisted index has no written byte, so no
entry can equal what an unlisted index holds. -/
abbrev Memory.wf (m : Memory) : Prop :=
  m.Pairwise (fun c d => c.1 < d.1) ∧ ∀ c ∈ m, c.1 < Config.bufSize

/-- One action of the host environment (00_scope.md R16, 30_encoding.md R97; log 1). -/
inductive EnvAct where
  /-- A host write of a word to a register index. -/
  | write (index : Byte) (value : Word)
  /-- A host read of a register index. -/
  | read (index : Byte)
  /-- The environment appends a byte to the input stream. -/
  | offer (b : Byte)
  /-- The environment signals end-of-input after the bytes offered so far. -/
  | endInput
  /-- The environment connects a new stream (10_state.md R46). -/
  | connect
  /-- The sink becomes ready, or no longer ready, to accept snapshots. -/
  | sink (ready : Bool)
  /-- The environment drives the `rst` input to a level (a level driven again: log 20). -/
  | rst (level : Bool)
  /-- The block has the turn for one step. -/
  | block
  /-- The host polls STATUS until BUSY = 0, the block having the turn meanwhile. -/
  | wait
deriving DecidableEq, Repr

/-- What one host read returned. -/
structure HostRead where
  index : Byte
  value : Word
deriving DecidableEq, Repr

/-- Everything the spec gives the machine (10_state.md R20), and the environment that drives it. -/
structure State where
  /-- STATUS, 10_state.md R23. -/
  status : Status
  /-- ERRCODE, 10_state.md R24; none is code 0. -/
  errcode : Option ErrKind
  /-- RESULT, 10_state.md R25. -/
  result : Word
  /-- CRCREG, 10_state.md R26. -/
  crcreg : Word
  /-- FTYPE, 10_state.md R27. -/
  ftype : Byte
  /-- FPLEN, 10_state.md R28. -/
  fplen : Byte
  /-- FDLEN, 10_state.md R29. -/
  fdlen : Byte
  /-- FCRC, 10_state.md R31. -/
  fcrc : Word
  /-- MASK, 10_state.md R32. -/
  mask : Word
  /-- FRAMES, 10_state.md R33. -/
  frames : Word
  /-- INCNT, 10_state.md R34. -/
  incnt : Word
  /-- BUF, 10_state.md R30. -/
  buf : Memory
  /-- The sequencer state, 10_state.md R40. -/
  seq : SeqState
  /-- Working register: the accepted command word, 10_state.md R41. -/
  cur : Word
  /-- Working register: characters consumed in the current field or marker, 10_state.md R41. -/
  k : Nat
  /-- Working register: the fixed-width field so far, 10_state.md R41. -/
  acc : Word
  /-- Working register: the high nibble of the current pair, 10_state.md R41. -/
  hi : BitVec 4
  /-- Working register: the next BUF index a pair writes, 10_state.md R41. -/
  wi : Nat
  /-- Working register: frames this command has completed, 10_state.md R41. -/
  nf : Word
  /-- The input port, 10_state.md R45. -/
  input : InPort
  /-- The snapshot handed to `Emit` and not yet accepted, 10_state.md R47, R50. -/
  pending : Option Snapshot
  /-- Whether the sink accepts a snapshot now, 10_state.md R47. -/
  sinkReady : Bool
  /-- The snapshots the sink has accepted, oldest first, 10_state.md R47. -/
  delivered : List Snapshot
  /-- The level of the `rst` input, 10_state.md R48. -/
  rst : Bool
  /-- The model's own: what the environment has still to do, in order (log 1). -/
  env : List EnvAct
  /-- The model's own: how many unspecified reads have been answered (log 6). -/
  draws : Nat
  /-- The model's own: what the host's reads returned, newest first (log 7). -/
  reads : List HostRead
deriving DecidableEq, Repr

/-- Why the machine stops with a fault. Neither arises from a state of the invariant (Safety.lean); the spec's own
error kinds are no faults, they are latched and the machine goes on (60_exceptions.md R245). -/
inductive Fault where
  /-- Raised by the operations that reach BUF, for a length or an index beyond it: BUF has no byte there
  (10_state.md R30). Safe: a stop where no rule gives an effect. -/
  | bufIndex (index : Nat)
  /-- Raised by the EMIT state when no record was handed to `Emit`. Safe: no rule leads there (45_pipeline.md R211). -/
  | emitWithoutRecord
deriving DecidableEq, Repr

/-- Why a step has no meaning. -/
inductive Refusal where
  /-- Raised by an arm of `exec` for a command that has no meaning yet; no arm does. Safe. -/
  | notModelled (mnemonic : String)
deriving DecidableEq, Repr

/-- The outcome of a step. -/
abbrev Out := Host.Outcome State Fault Refusal

/-- STATUS = 0x00000000 (10_state.md R50). -/
def Status.zero : Status :=
  { busy := false, done := false, err := false, eosf := false, ovr := false, errstate := .idle }

/-- The block after the first release of `rst` (10_state.md R50, 70_reset_and_hazards.md R272). Registers have the
values of R50; BUF holds its power-on bytes; no stream and no sink is connected yet (70_reset_and_hazards.md R274,
log 5); the working registers are named zero (log 4). -/
def State.reset : State :=
  { status := Status.zero, errcode := none, result := 0#32, crcreg := Config.crcInit, ftype := 0#8, fplen := 0#8,
    fdlen := 0#8, fcrc := 0#32, mask := 0#32, frames := 0#32, incnt := 0#32, buf := [], seq := .idle, cur := 0#32,
    k := 0, acc := 0#32, hi := 0#4, wi := 0, nf := 0#32, input := { ahead := [], ended := false, pos := 0 },
    pending := none, sinkReady := false, delivered := [], rst := false, env := [], draws := 0, reads := [] }

end Sys2Proof.Machine
end

