-- ==== Sys2Proof/Machine/Flags.lean ====
section
/-!
DEFINITION. STATUS and ERRCODE: the codes of their fields, the words the host reads, and every change a rule makes
to the flags (10_state.md R23, R24).
-/

namespace Sys2Proof.Machine

/-- The 4-bit code of a sequencer state (10_state.md R40). -/
def SeqState.code : SeqState → BitVec 4
  | .idle => 0x0#4
  | .hdr => 0x1#4
  | .type => 0x2#4
  | .len => 0x3#4
  | .payload => 0x4#4
  | .cksum => 0x5#4
  | .mhdr => 0x6#4
  | .mval => 0x7#4
  | .verify => 0x8#4
  | .pad => 0x9#4
  | .mask => 0xA#4
  | .recomp => 0xB#4
  | .emit => 0xC#4
  | .hexstr => 0xD#4
  | .exec => 0xE#4

/-- The ERRCODE value of an error kind (60_exceptions.md R240). -/
def ErrKind.code : ErrKind → BitVec 4
  | .frameFormat => 1#4
  | .conversion => 2#4
  | .unexpectedLength => 3#4
  | .checksum => 4#4
  | .invalidLength => 5#4
  | .bufferTooSmall => 6#4
  | .illegalCommand => 7#4

/-- STATUS as the host reads it: ERRSTATE in 11:8, then OVR, EOSF, ERR, DONE, BUSY in 4:0, the rest 0
(10_state.md R23). -/
def Status.word (f : Status) : Word :=
  0#20 ++ f.errstate.code ++ 0#3 ++ BitVec.ofBool f.ovr ++ BitVec.ofBool f.eosf ++ BitVec.ofBool f.err
    ++ BitVec.ofBool f.done ++ BitVec.ofBool f.busy

/-- ERRCODE as the host reads it (10_state.md R24). -/
def errcodeWord : Option ErrKind → Word
  | none => 0#32
  | some e => e.code.setWidth 32

/-- The flags when a word other than SRESET is accepted (46_control.md R231). -/
def Status.accepted (f : Status) : Status := { f with busy := true, done := false, eosf := false }

/-- The flags when a command finishes (46_control.md R234). -/
def Status.finished (f : Status) : Status := { f with busy := false, done := true }

/-- The flags when an error is raised in state `st` (60_exceptions.md R245). -/
def Status.errored (st : SeqState) (f : Status) : Status :=
  { f with busy := false, done := false, err := true, errstate := st }

/-- The flags CLEAR clears (46_control.md R237). -/
def Status.cleared (f : Status) : Status := { f with err := false, errstate := .idle, ovr := false }

/-- The flags when a word is dropped (46_control.md R232). -/
def Status.dropped (f : Status) : Status := { f with ovr := true }

/-- The flags when a frame command ends at EndOfStream (10_state.md R23). -/
def Status.atEndOfStream (f : Status) : Status := { f with eosf := true }

end Sys2Proof.Machine
end

