-- ==== Sys2Proof/Machine/Ops.lean ====
section
/-!
DEFINITION. The named operations every command rule is written with: BUF bytes and words (00_scope.md R11), the
ports (R12), hex digits and pairs (R13, 41_hex_codec.md), finishing, error entry and the return from it, and reset.
-/

namespace Sys2Proof.Machine

/-! ## BUF -/

/-- The byte written at an index since power-on, if any. -/
def Memory.read? : Memory → Nat → Option Byte
  | [], _ => none
  | c :: rest, a => if c.1 = a then some c.2 else Memory.read? rest a

/-- `BUF[a]`: the byte written there, or the byte it powered on with (10_state.md R30, log 3). -/
def Memory.byteAt (m : Memory) (a : Nat) : Byte :=
  match m.read? a with
  | some b => b
  | none => Config.powerOnByte a

/-- `BUF[a] <- b`, keeping the canonical form. -/
def Memory.write : Memory → Nat → Byte → Memory
  | [], a, b => [(a, b)]
  | c :: rest, a, b =>
    if a < c.1 then (a, b) :: c :: rest
    else if a = c.1 then (a, b) :: rest
    else c :: Memory.write rest a b

/-- The bytes `BUF[0..n)` in index order. -/
def Memory.bytes (m : Memory) (n : Nat) : List Byte := (List.range n).map m.byteAt

/-- `MemRead(a, 4)`, big-endian (00_scope.md R11, 20_memory.md R62). -/
def Memory.readWord (m : Memory) (a : Nat) : Word :=
  m.byteAt a ++ m.byteAt (a + 1) ++ m.byteAt (a + 2) ++ m.byteAt (a + 3)

/-- `MemWrite(a, 4, v)`, big-endian (00_scope.md R11, 10_state.md R36). -/
def Memory.writeWord (m : Memory) (a : Nat) (v : Word) : Memory :=
  (((m.write a (v.extractLsb' 24 8)).write (a + 1) (v.extractLsb' 16 8)).write (a + 2) (v.extractLsb' 8 8)).write
    (a + 3) (v.extractLsb' 0 8)

/-- `BUF[a] <- 0` for the `n` indices from `a` (44_transform.md R192). -/
def Memory.zeroFill (m : Memory) : Nat → Nat → Memory
  | _, 0 => m
  | a, n + 1 => Memory.zeroFill (m.write a 0#8) (a + 1) n

/-- `roundup4(n)` (00_scope.md R13). -/
def roundup4 (n : Nat) : Nat := 4 * ((n + 3) / 4)

/-- What a rule does with the `FDLEN` bytes of BUF. A length beyond BUF has no bytes (10_state.md R29 rules it out). -/
def withDataLength (s : State) (f : Nat → Out) : Out :=
  if s.fdlen.toNat ≤ Config.bufSize then f s.fdlen.toNat else .fault (.bufIndex s.fdlen.toNat)

/-- `BUF[wi] <- b` of a payload or HEX.DSTR pair, and `wi` moves on (10_state.md R41). -/
def storePair (b : Byte) (s : State) (next : State → Out) : Out :=
  if s.wi < Config.bufSize then next { s with buf := s.buf.write s.wi b, wi := s.wi + 1 }
  else .fault (.bufIndex s.wi)

/-! ## Finishing, errors, reset -/

/-- `finish` (46_control.md R234). -/
def finish (s : State) : State := { s with status := s.status.finished, seq := .idle }

/-- `raise E(S)`, error entry: the one operation every error goes through (60_exceptions.md R245). -/
def raiseError (e : ErrKind) (st : SeqState) (s : State) : State :=
  { s with status := s.status.errored st, errcode := some e, seq := .idle }

/-- The return from an error (60_exceptions.md R249, 46_control.md R237). -/
def clearError (s : State) : State := { s with status := s.status.cleared, errcode := none }

/-- What `rst` and SRESET do alike: every register, STATUS field and `seq` to its reset value, a running command and
a pending snapshot abandoned; BUF and the ports untouched (10_state.md R50, 70_reset_and_hazards.md R270, R271). -/
def resetBlock (s : State) : State :=
  { s with status := Status.zero, errcode := none, result := 0#32, crcreg := Config.crcInit, ftype := 0#8,
           fplen := 0#8, fdlen := 0#8, fcrc := 0#32, mask := 0#32, frames := 0#32, incnt := 0#32, seq := .idle,
           pending := none }

/-- Acceptance of a word other than SRESET (46_control.md R231). -/
def accept (w : Word) (s : State) : State := { s with cur := w, status := s.status.accepted, seq := .exec }

/-- A stage begins: `seq` takes its code before it reads, and its field is empty (43_frame_decoder.md R150,
10_state.md R41). -/
def enter (st : SeqState) (s : State) : State := { s with seq := st, k := 0, acc := 0#32 }

/-! ## The input port -/

/-- What `InRead()` answers (00_scope.md R12, 10_state.md R45). -/
inductive InItem where
  /-- `Byte(b)`, with the state in which it has been taken. -/
  | byte (b : Byte) (after : State)
  /-- `EOS`; nothing is consumed. -/
  | eos
  /-- The port offers neither; the block waits. -/
  | wait
deriving DecidableEq, Repr

/-- One byte taken from the port: INCNT counts it (10_state.md R34, R45). -/
def takeByte (rest : List Byte) (s : State) : State :=
  { s with input := { s.input with ahead := rest, pos := s.input.pos + 1 }, incnt := s.incnt + 1#32 }

/-- `InRead()` (00_scope.md R12, 10_state.md R45, R46). -/
def inRead (s : State) : InItem :=
  match s.input.ahead with
  | b :: rest => .byte b (takeByte rest s)
  | [] => if s.input.ended then .eos else .wait

/-- The next `InRead()` would return EOS. -/
def atEndOfInput (s : State) : Bool := s.input.ahead.isEmpty && s.input.ended

/-! ## Hex digits and fields -/

/-- `hexval(c)` (41_hex_codec.md R110). -/
def hexval (c : Byte) : Option (BitVec 4) :=
  if 0x30#8 ≤ c ∧ c ≤ 0x39#8 then some ((c - 0x30#8).setWidth 4)
  else if 0x41#8 ≤ c ∧ c ≤ 0x46#8 then some ((c - 0x37#8).setWidth 4)
  else if 0x61#8 ≤ c ∧ c ≤ 0x66#8 then some ((c - 0x57#8).setWidth 4)
  else none

/-- `hexchar(n)`, upper case (41_hex_codec.md R111). -/
def hexchar (n : BitVec 4) : Byte :=
  if n ≤ 9#4 then 0x30#8 + n.setWidth 8 else 0x37#8 + n.setWidth 8

/-- `decodeHexPair(chi, clo)`; none is ConversionError (41_hex_codec.md R112). -/
def decodeHexPair (chi clo : Byte) : Option Byte :=
  match hexval chi, hexval clo with
  | some h, some l => some (h ++ l)
  | _, _ => none

/-- `ReadNibble(S, E)`, one block step when the port answers (41_hex_codec.md R113). -/
def readNibble (st : SeqState) (short : ErrKind) (s : State) (next : BitVec 4 → State → Out) : Out :=
  match inRead s with
  | .wait => .next s
  | .eos => .next (raiseError short st s)
  | .byte c s1 =>
    match hexval c with
    | none => .next (raiseError .conversion st s1)
    | some n => next n s1

/-- One character of a field of hex pairs, `ReadHexByte` (41_hex_codec.md R114): the first of a pair is kept in
`hi`, the second completes the byte. -/
def pairStep (st : SeqState) (short : ErrKind) (s : State) (done : Byte → State → Out) : Out :=
  readNibble st short s fun n s1 =>
    if s1.k % 2 = 0 then .next { s1 with hi := n, k := s1.k + 1 }
    else done (s1.hi ++ n) { s1 with k := s1.k + 1 }

/-- One character of a field of 8, `ReadHexWord` (41_hex_codec.md R114); the first is the most significant. -/
def wordStep (st : SeqState) (short : ErrKind) (s : State) (done : Word → State → Out) : Out :=
  readNibble st short s fun n s1 =>
    let v := (s1.acc <<< 4) ||| n.setWidth 32
    let s2 := { s1 with acc := v, k := s1.k + 1 }
    if s1.k = 7 then done v s2 else .next s2

/-- One character of `ReadMarker` (43_frame_decoder.md R152): the first that differs is consumed and ends the
command; `onEos` is what end-of-input means here. -/
def markerStep (st : SeqState) (marker : List Byte) (s : State) (onEos : State → Out) (done : State → Out) : Out :=
  match inRead s with
  | .wait => .next s
  | .eos => onEos s
  | .byte c s1 =>
    if marker[s1.k]? = some c then
      let s2 := { s1 with k := s1.k + 1 }
      if s1.k = 4 then done s2 else .next s2
    else .next (raiseError .frameFormat st s1)

/-! ## The snapshot output port -/

/-- The record `Emit` takes from the registers at the moment it is called (10_state.md R47). -/
def snapshotOf (kind : SnapKind) (s : State) (n : Nat) : Snapshot :=
  { kind := kind, type := s.ftype, payloadLength := s.fplen, dataLength := s.fdlen, crc32 := s.fcrc,
    data := s.buf.bytes n }

/-- `seq <- EMIT; Emit(s)` is called: the record waits for the sink (10_state.md R47). -/
def callEmit (kind : SnapKind) (s : State) (n : Nat) : State :=
  { s with seq := .emit, pending := some (snapshotOf kind s n) }

/-- The sink accepts the record (10_state.md R47). -/
def deliver (p : Snapshot) (s : State) : State := { s with pending := none, delivered := s.delivered ++ [p] }

/-- One block step in EMIT: the sink accepts the pending record, or the block waits (10_state.md R47). -/
def emitStep (s : State) (accepted : SnapKind → State → Out) : Out :=
  match s.pending with
  | none => .fault .emitWithoutRecord
  | some p => if s.sinkReady then accepted p.kind (deliver p s) else .next s

end Sys2Proof.Machine
end

