-- ==== Sys2Proof/Machine/Control.lean ====
section
/-!
DEFINITION. The control commands (46_control.md). A meaning is called with the command accepted (46_control.md R231),
but for SRESET, which is not accepted that way (46_control.md R231, R238).
-/

namespace Sys2Proof.Machine

/-- NOP (46_control.md R236). -/
def execNop (s : State) : Out := .next (finish s)

/-- CLEAR (46_control.md R237). -/
def execClear (s : State) : Out := .next (finish (clearError s))

/-- SRESET (46_control.md R238). -/
def execSreset (s : State) : Out := .next (resetBlock s)

end Sys2Proof.Machine
end

