-- ==== Sys2Proof/Machine/Hex.lean ====
section
/-!
DEFINITION. The hex codec commands (41_hex_codec.md R115 to R117).
-/

namespace Sys2Proof.Machine

/-- HEX.DPAIR (41_hex_codec.md R115). -/
def execHexDpair (chi clo : Byte) (s : State) : Out :=
  match decodeHexPair chi clo with
  | none => .next (raiseError .conversion .exec s)
  | some b => .next (finish { s with result := b.setWidth 32 })

/-- HEX.EPAIR (41_hex_codec.md R116). -/
def execHexEpair (imm : Byte) (s : State) : Out :=
  .next (finish { s with result := 0#16 ++ hexchar (imm.extractLsb' 4 4) ++ hexchar (imm.extractLsb' 0 4) })

/-- HEX.DSTR has read all its characters (41_hex_codec.md R117). -/
def dstrDone (len : BitVec 10) (s : State) : Out := .next (finish { s with result := BitVec.ofNat 32 (len.toNat / 2) })

/-- HEX.DSTR's checks, before any read (41_hex_codec.md R117, 30_encoding.md R94(c)). LEN = 0 reads nothing (log 14). -/
def dstrStart (len : BitVec 10) (cap : Byte) (s : State) : Out :=
  if Config.bufSize < cap.toNat then .next (raiseError .illegalCommand .exec s)
  else if len.toNat % 2 = 1 then .next (raiseError .invalidLength .exec s)
  else if cap.toNat < len.toNat / 2 then .next (raiseError .bufferTooSmall .exec s)
  else if len.toNat = 0 then dstrDone len s
  else .next { enter .hexstr s with wi := 0 }

/-- One character of HEX.DSTR (41_hex_codec.md R117). -/
def dstrStep (len : BitVec 10) (s : State) : Out :=
  pairStep .hexstr .unexpectedLength s fun b s1 =>
    storePair b s1 fun s2 => if s2.wi = len.toNat / 2 then dstrDone len s2 else .next s2

/-- HEX.DSTR: its start, or the character it has reached (41_hex_codec.md R117, log 8). -/
def execHexDstr (len : BitVec 10) (cap : Byte) (s : State) : Out :=
  match s.seq with
  | .hexstr => dstrStep len s
  | .idle | .hdr | .type | .len | .payload | .cksum | .mhdr | .mval | .verify | .pad | .mask | .recomp | .emit | .exec =>
    dstrStart len cap s

end Sys2Proof.Machine
end

