-- ==== Sys2Proof/Machine/Frame.lean ====
section
/-!
DEFINITION. The Frame Decoder, the Mask Reader and their commands (43_frame_decoder.md). Each stage is a function that
makes one block step in it.
-/

namespace Sys2Proof.Machine

/-- EOS in ExpectHeader: EndOfStream if no byte of the header was read, else a partial marker
(43_frame_decoder.md R152, R161). -/
def headerEos (onEndOfStream : State → Out) (s : State) : Out :=
  if s.k = 0 then onEndOfStream s else .next (raiseError .frameFormat .hdr s)

/-- ExpectHeader begins. If the stream has ended, EndOfStream is answered in the same block step
(43_frame_decoder.md R161, 70_reset_and_hazards.md R288, log 13). -/
def beginHeader (onEndOfStream : State → Out) (s : State) : Out :=
  if atEndOfInput s then onEndOfStream (enter .hdr s) else .next (enter .hdr s)

/-- ReadLength has its byte: FPLEN takes it, FDLEN takes it less 4 unless it is below 4; a frame without data goes
straight on to the checksum (43_frame_decoder.md R163, R164). -/
def lengthRead (v : Byte) (s : State) : Out :=
  let s1 := { s with fplen := v }
  if v.toNat < 4 then .next (raiseError .frameFormat .len s1)
  else
    let s2 := { s1 with fdlen := v - 4#8 }
    if v.toNat = 4 then .next (enter .cksum s2) else .next { enter .payload s2 with wi := 0 }

/-- ReadPayload has a byte: it goes to BUF[wi]; after FDLEN of them the checksum follows
(43_frame_decoder.md R164). -/
def payloadRead (b : Byte) (s : State) : Out :=
  storePair b s fun s1 => if s1.wi = s1.fdlen.toNat then .next (enter .cksum s1) else .next s1

/-- One character of ExpectHeader (43_frame_decoder.md R161). -/
def headerStep (onEndOfStream : State → Out) (s : State) : Out :=
  markerStep .hdr Config.hdrMarker s (headerEos onEndOfStream) fun s1 => .next (enter .type s1)

/-- One character of ReadType (43_frame_decoder.md R162). -/
def typeStep (s : State) : Out :=
  pairStep .type .conversion s fun v s1 => .next (enter .len { s1 with ftype := v })

/-- One character of ReadLength (43_frame_decoder.md R163). -/
def lengthStep (s : State) : Out := pairStep .len .conversion s lengthRead

/-- One character of ReadPayload (43_frame_decoder.md R164). -/
def payloadStep (s : State) : Out := pairStep .payload .unexpectedLength s payloadRead

/-- One character of ReadChecksum (43_frame_decoder.md R165); `decoded` is what follows "Done" (R166). -/
def checksumStep (decoded : State → Out) (s : State) : Out :=
  wordStep .cksum .conversion s fun v s1 => decoded { s1 with fcrc := v }

/-- One character of ReadMaskMarker (43_frame_decoder.md R167). -/
def maskMarkerStep (s : State) : Out :=
  markerStep .mhdr Config.maskMarker s (fun s1 => .next (raiseError .frameFormat .mhdr s1)) fun s1 =>
    .next (enter .mval s1)

/-- One character of ReadMaskValue (43_frame_decoder.md R168). -/
def maskValueStep (maskRead : State → Out) (s : State) : Out :=
  wordStep .mval .conversion s fun v s1 => maskRead { s1 with mask := v }

/-- FRM.DECODE ends at EndOfStream (43_frame_decoder.md R170). -/
def decodeAtEos (s : State) : Out :=
  .next (finish { s with status := s.status.atEndOfStream, result := 0#32 })

/-- FRM.DECODE has decoded a frame (43_frame_decoder.md R170). -/
def decodeDone (s : State) : Out := .next (finish { s with result := 1#32 })

/-- FRM.DECODE: its start, or one step of the stage it has reached (43_frame_decoder.md R160, R170, log 8). -/
def execFrmDecode (s : State) : Out :=
  match s.seq with
  | .hdr => headerStep decodeAtEos s
  | .type => typeStep s
  | .len => lengthStep s
  | .payload => payloadStep s
  | .cksum => checksumStep decodeDone s
  | .idle | .mhdr | .mval | .verify | .pad | .mask | .recomp | .emit | .hexstr | .exec => beginHeader decodeAtEos s

/-- FRM.MASKRD: its start, or one step of the stage it has reached (43_frame_decoder.md R169, R171, log 8). -/
def execFrmMaskrd (s : State) : Out :=
  match s.seq with
  | .mhdr => maskMarkerStep s
  | .mval => maskValueStep (fun s1 => .next (finish { s1 with result := s1.mask })) s
  | .idle | .hdr | .type | .len | .payload | .cksum | .verify | .pad | .mask | .recomp | .emit | .hexstr | .exec =>
    .next (enter .mhdr s)

end Sys2Proof.Machine
end

