-- ==== Sys2Proof/Machine/Crc.lean ====
section
/-!
DEFINITION. The CRC-32 engine and its commands (42_crc32.md).
-/

namespace Sys2Proof.Machine

/-- One step of the forward CRC, MSB first (42_crc32.md R130, `f`). -/
def fwdShift (r : Word) : Word := if r.getLsbD 31 then (r <<< 1) ^^^ Config.crcPoly else r <<< 1

/-- The ROM `FWD[i]`: i in the top byte, eight steps (42_crc32.md R130). -/
def fwd (i : Byte) : Word :=
  fwdShift (fwdShift (fwdShift (fwdShift (fwdShift (fwdShift (fwdShift (fwdShift (i ++ 0#24))))))))

/-- The ROM `REFL8[b]`: the bits of b reversed (42_crc32.md R131). -/
def refl8 (b : Byte) : Byte := b.reverse

/-- `crc_step(R, b)` (42_crc32.md R132). -/
def crcStep (r : Word) (b : Byte) : Word := (r <<< 8) ^^^ fwd (r.extractLsb' 24 8 ^^^ refl8 b)

/-- `crc_final(R)` (42_crc32.md R133). -/
def crcFinal (r : Word) : Word := (r ^^^ 0xFFFFFFFF#32).reverse

/-- The running register after the bytes, in order (42_crc32.md R134). -/
def crcRegister (r : Word) (bytes : List Byte) : Word := bytes.foldl crcStep r

/-- `crc32(bytes)` (42_crc32.md R134). -/
def crc32 (bytes : List Byte) : Word := crcFinal (crcRegister Config.crcInit bytes)

/-- `CrcOverBuf(n)`: CRCREG after BUF[0..n); its value is `crcFinal` of CRCREG (42_crc32.md R137). -/
def crcOverBuf (n : Nat) (s : State) : State :=
  { s with crcreg := crcRegister Config.crcInit (s.buf.bytes n) }

/-- CRC.INIT (42_crc32.md R138). -/
def execCrcInit (s : State) : Out := .next (finish { s with crcreg := Config.crcInit })

/-- CRC.BYTE (42_crc32.md R139). -/
def execCrcByte (imm : Byte) (s : State) : Out := .next (finish { s with crcreg := crcStep s.crcreg imm })

/-- CRC.FINAL (42_crc32.md R140). -/
def execCrcFinal (s : State) : Out := .next (finish { s with result := crcFinal s.crcreg })

/-- CRC.BUF (42_crc32.md R141). -/
def execCrcBuf (s : State) : Out :=
  withDataLength s fun n =>
    let s1 := crcOverBuf n s
    .next (finish { s1 with result := crcFinal s1.crcreg })

end Sys2Proof.Machine
end

