-- ==== Sys2Proof/Machine/Transform.lean ====
section
/-!
DEFINITION. The Integrity & Transform Stage: the four stage procedures, each one block step, and the XF commands
(44_transform.md).
-/

namespace Sys2Proof.Machine

/-- Verify's comparison of the computed CRC with FCRC (44_transform.md R190). -/
def compareCrc (s : State) (passed : State → Out) : Out :=
  if crcFinal s.crcreg = s.fcrc then passed s else .next (raiseError .checksum .verify s)

/-- The stage `Verify()` (44_transform.md R190). -/
def verifyStage (s : State) (passed : Nat → State → Out) : Out :=
  withDataLength s fun n => compareCrc (crcOverBuf n { s with seq := .verify }) (passed n)

/-- The stage `Pad()` (44_transform.md R192). -/
def padStage (s : State) (padded : State → Out) : Out :=
  withDataLength s fun n =>
    padded { s with seq := .pad, buf := s.buf.zeroFill n (roundup4 n - n), fdlen := BitVec.ofNat 8 (roundup4 n) }

/-- The words Mask visits below `nw`: 1, 3, 5, ... (44_transform.md R194). -/
def maskedWords (nw : Nat) : List Nat := (List.range (nw / 2)).map fun i => 2 * i + 1

/-- One visited word: `w AND mask`, big-endian word `j` (44_transform.md R194). -/
def maskWord (mask : Word) (m : Memory) (j : Nat) : Memory := m.writeWord (4 * j) (m.readWord (4 * j) &&& mask)

/-- The stage `Mask()` (44_transform.md R194). -/
def maskStage (s : State) (masked : State → Out) : Out :=
  withDataLength s fun n => masked { s with seq := .mask, buf := (maskedWords (n / 4)).foldl (maskWord s.mask) s.buf }

/-- The stage `Recompute()` (44_transform.md R196). -/
def recomputeStage (s : State) (recomputed : Nat → State → Out) : Out :=
  withDataLength s fun n =>
    let s1 := crcOverBuf n { s with seq := .recomp }
    recomputed n { s1 with fcrc := crcFinal s1.crcreg }

/-- XF.VERIFY: RESULT is written before the comparison (44_transform.md R190). -/
def execXfVerify (s : State) : Out :=
  withDataLength s fun n =>
    let s1 := crcOverBuf n { s with seq := .verify }
    compareCrc { s1 with result := crcFinal s1.crcreg } fun s2 => .next (finish s2)

/-- XF.PAD (44_transform.md R192). -/
def execXfPad (s : State) : Out := padStage s fun s1 => .next (finish { s1 with result := s1.fdlen.setWidth 32 })

/-- XF.MASK: RESULT is the number of words visited (44_transform.md R194). -/
def execXfMask (s : State) : Out :=
  maskStage s fun s1 => .next (finish { s1 with result := BitVec.ofNat 32 (s1.fdlen.toNat / 4 / 2) })

/-- XF.RECOMP (44_transform.md R196). -/
def execXfRecomp (s : State) : Out := recomputeStage s fun _ s1 => .next (finish { s1 with result := s1.fcrc })

end Sys2Proof.Machine
end

