-- ==== Sys2Proof/Machine/Pipeline.lean ====
section
/-!
DEFINITION. The Pipeline Driver: one block step of an iteration, and the commands FRM.ONE and FRM.RUN
(45_pipeline.md).
-/

namespace Sys2Proof.Machine

/-- The POST snapshot is accepted: the frame is completed and counted (45_pipeline.md R211). -/
def countFrame (s : State) : State := { s with nf := s.nf + 1#32, frames := s.frames + 1#32 }

/-- Verify passed: the PRE record goes to `Emit` (45_pipeline.md R210, R211). -/
def pipeVerify (s : State) : Out := verifyStage s fun n s1 => .next (callEmit .pre s1 n)

/-- Pad, after which Mask is next (45_pipeline.md R211). -/
def pipePad (s : State) : Out := padStage s fun s1 => .next (enter .mask s1)

/-- Mask, after which Recompute is next (45_pipeline.md R211). -/
def pipeMask (s : State) : Out := maskStage s fun s1 => .next (enter .recomp s1)

/-- Recompute, after which the POST record goes to `Emit` (45_pipeline.md R210, R211). -/
def pipeRecompute (s : State) : Out := recomputeStage s fun n s1 => .next (callEmit .post s1 n)

/-- A record is accepted: after PRE comes Pad, after POST the frame is complete (45_pipeline.md R211). -/
def pipeAccepted (completed : State → Out) (kind : SnapKind) (s : State) : Out :=
  match kind with
  | .pre => .next (enter .pad s)
  | .post => completed (countFrame s)

/-- One block step of `FrameIteration()`, in the stage it has reached; outside them it starts with `start`
(45_pipeline.md R211, log 8, log 15). -/
def iterationStep (start onEndOfStream completed : State → Out) (s : State) : Out :=
  match s.seq with
  | .hdr => headerStep onEndOfStream s
  | .type => typeStep s
  | .len => lengthStep s
  | .payload => payloadStep s
  | .cksum => checksumStep (fun s1 => .next (enter .mhdr s1)) s
  | .mhdr => maskMarkerStep s
  | .mval => maskValueStep (fun s1 => .next (enter .verify s1)) s
  | .verify => pipeVerify s
  | .emit => emitStep s (pipeAccepted completed)
  | .pad => pipePad s
  | .mask => pipeMask s
  | .recomp => pipeRecompute s
  | .idle | .hexstr | .exec => start s

/-- RESULT is the number of frames this command completed, and the command finishes (45_pipeline.md R212, R214). -/
def pipeFinish (s : State) : Out := .next (finish { s with result := s.nf })

/-- FRM.ONE and FRM.RUN end at EndOfStream (45_pipeline.md R212, R214). -/
def pipeAtEos (s : State) : Out := pipeFinish { s with status := s.status.atEndOfStream }

/-- FRM.ONE and FRM.RUN start: `nf <- 0`, then the first header (45_pipeline.md R212, R214). -/
def pipeStart (s : State) : Out := beginHeader pipeAtEos { s with nf := 0#32 }

/-- FRM.ONE: a completed frame ends it (45_pipeline.md R212). -/
def execFrmOne (s : State) : Out := iterationStep pipeStart pipeAtEos pipeFinish s

/-- FRM.RUN: a completed frame leads to the next header (45_pipeline.md R214). -/
def execFrmRun (s : State) : Out := iterationStep pipeStart pipeAtEos (fun s1 => .next (enter .hdr s1)) s

end Sys2Proof.Machine
end

