-- ==== Sys2Proof/Machine/Dispatch.lean ====
section
/-!
DEFINITION. The meaning of each command, one arm per constructor (30_encoding.md R93).
-/

namespace Sys2Proof.Machine

def exec (i : Instr) (s : State) : Host.Outcome State Fault Refusal :=
  match i with
  | .nop => Sys2Proof.Machine.execNop s
  | .clear => Sys2Proof.Machine.execClear s
  | .sreset => Sys2Proof.Machine.execSreset s
  | .hexDpair chi clo => Sys2Proof.Machine.execHexDpair chi clo s
  | .hexEpair imm => Sys2Proof.Machine.execHexEpair imm s
  | .hexDstr len cap => Sys2Proof.Machine.execHexDstr len cap s
  | .crcInit => Sys2Proof.Machine.execCrcInit s
  | .crcByte imm => Sys2Proof.Machine.execCrcByte imm s
  | .crcFinal => Sys2Proof.Machine.execCrcFinal s
  | .crcBuf => Sys2Proof.Machine.execCrcBuf s
  | .frmDecode => Sys2Proof.Machine.execFrmDecode s
  | .frmMaskrd => Sys2Proof.Machine.execFrmMaskrd s
  | .xfVerify => Sys2Proof.Machine.execXfVerify s
  | .xfPad => Sys2Proof.Machine.execXfPad s
  | .xfMask => Sys2Proof.Machine.execXfMask s
  | .xfRecomp => Sys2Proof.Machine.execXfRecomp s
  | .frmOne => Sys2Proof.Machine.execFrmOne s
  | .frmRun => Sys2Proof.Machine.execFrmRun s

end Sys2Proof.Machine
end

