-- ==== Sys2Proof/Machine/Operands.lean ====
section
/-!
DEFINITION. The operands of a host access: the register index, what a read of it returns and what a write of it
stores (10_state.md R21 to R36). CMD's side effect is in Sequencer.lean.
-/

namespace Sys2Proof.Machine

/-- The register an index names (10_state.md R21). -/
inductive Reg where
  | cmd | status | errcode | result | crcreg | ftype | fplen | fdlen | fcrc | mask | frames | incnt
  /-- BUFW_k, 0 ≤ k ≤ 62. -/
  | bufw (k : Nat)
  /-- 0x0C-0x3F and 0x7F-0xFF (10_state.md R35). -/
  | reserved
deriving DecidableEq, Repr

/-- The register map (10_state.md R21). -/
def regOfIndex (index : Byte) : Reg :=
  match index.toNat with
  | 0x00 => .cmd
  | 0x01 => .status
  | 0x02 => .errcode
  | 0x03 => .result
  | 0x04 => .crcreg
  | 0x05 => .ftype
  | 0x06 => .fplen
  | 0x07 => .fdlen
  | 0x08 => .fcrc
  | 0x09 => .mask
  | 0x0A => .frames
  | 0x0B => .incnt
  | n => if 0x40 ≤ n ∧ n ≤ 0x7E then .bufw (n - 0x40) else .reserved

/-- What a read of a register returns while BUSY = 0; unused bits are 0 (10_state.md R21 to R36). -/
def readReg (r : Reg) (s : State) : Word :=
  match r with
  | .cmd => 0#32
  | .status => s.status.word
  | .errcode => errcodeWord s.errcode
  | .result => s.result
  | .crcreg => s.crcreg
  | .ftype => s.ftype.setWidth 32
  | .fplen => s.fplen.setWidth 32
  | .fdlen => s.fdlen.setWidth 32
  | .fcrc => s.fcrc
  | .mask => s.mask
  | .frames => s.frames
  | .incnt => s.incnt
  | .bufw k => s.buf.readWord (4 * k)
  | .reserved => 0#32

/-- FDLEN takes `v[7:0]` if that is at most 252, and keeps its value otherwise (10_state.md R29). -/
def legalLength (old : Byte) (v : Word) : Byte :=
  if (v.setWidth 8).toNat ≤ Config.bufSize then v.setWidth 8 else old

/-- What a write of a register stores while BUSY = 0; read-only and reserved registers ignore it, and a field takes
the low bits (10_state.md R21 to R36). A write of CMD stores nothing (10_state.md R22). -/
def writeReg (r : Reg) (v : Word) (s : State) : State :=
  match r with
  | .crcreg => { s with crcreg := v }
  | .ftype => { s with ftype := v.setWidth 8 }
  | .fplen => { s with fplen := v.setWidth 8 }
  | .fdlen => { s with fdlen := legalLength s.fdlen v }
  | .fcrc => { s with fcrc := v }
  | .mask => { s with mask := v }
  | .bufw k => { s with buf := s.buf.writeWord (4 * k) v }
  | .cmd | .status | .errcode | .result | .frames | .incnt | .reserved => s

end Sys2Proof.Machine
end

