-- ==== Sys2Proof/Machine/Sequencer.lean ====
section
/-!
DEFINITION. Command acceptance and dropping (46_control.md), the block's own steps, and the host environment's
accesses (20_memory.md R65 to R67, 70_reset_and_hazards.md R270).
-/

namespace Sys2Proof.Machine

/-- SRESET's word, compared whole (46_control.md R230). -/
def sresetWord : Word := 0x02000000#32

/-- CLEAR's word, compared whole (46_control.md R230). -/
def clearWord : Word := 0x01000000#32

/-- The acceptance table (46_control.md R230). -/
def accepts (f : Status) (w : Word) : Bool :=
  w == sresetWord || (!f.busy && (!f.err || w == clearWord))

/-- The selected command makes a block step, or the word is illegal (30_encoding.md R95, 60_exceptions.md R241). -/
def runWord (w : Word) (s : State) : Out :=
  match decode w with
  | .ok i => exec i s
  | .error _ => .next (raiseError .illegalCommand .exec s)

/-- An accepted word: R231, or for SRESET its rule instead (46_control.md R231). -/
def runAccepted (w : Word) (s : State) : Out :=
  if w = sresetWord then runWord w s else runWord w (accept w s)

/-- A host write of CMD: accepted or dropped at once (46_control.md R230, R232); ignored while `rst` is asserted
(70_reset_and_hazards.md R270). -/
def writeCmd (w : Word) (s : State) : Out :=
  if s.rst then .next s
  else if accepts s.status w then runAccepted w s
  else .next { s with status := s.status.dropped }

/-- While `rst` is asserted the registers are held at their reset values (70_reset_and_hazards.md R270, log 16). -/
def holdReset (s : State) : State := if s.rst then resetBlock s else s

/-- A host write (20_memory.md R66, R67): CMD presents a command; any other index is ignored while BUSY = 1. -/
def hostWrite (index : Byte) (v : Word) (s : State) : Out :=
  match regOfIndex index with
  | .cmd => writeCmd v s
  | r => if s.status.busy then .next s else .next (holdReset (writeReg r v s))

/-- Whether a read's value is unspecified: BUSY = 1 and the index is not STATUS (20_memory.md R67(b)). -/
def readIsFree (r : Reg) (s : State) : Bool := s.status.busy && r != .status

/-- What a host read returns (20_memory.md R66, R67, 93_implementation_defined.md U3). -/
def readValue (index : Byte) (s : State) : Word :=
  if readIsFree (regOfIndex index) s then Config.busyRead s.draws else readReg (regOfIndex index) s

/-- A host read: no register changes (20_memory.md R66); a free value is drawn afresh for each read that needs one
(log 6). -/
def hostRead (index : Byte) (s : State) : State :=
  { s with reads := { index := index, value := readValue index s } :: s.reads,
           draws := if readIsFree (regOfIndex index) s then s.draws + 1 else s.draws }

/-- The environment appends a byte to the stream; after end-of-input there is no more stream (10_state.md R46,
log 17). -/
def offerByte (b : Byte) (s : State) : State :=
  if s.input.ended then s else { s with input := { s.input with ahead := s.input.ahead ++ [b] } }

/-- The environment signals end-of-input (10_state.md R45). -/
def signalEnd (s : State) : State := { s with input := { s.input with ended := true } }

/-- The environment connects a new stream (10_state.md R46, log 17). -/
def connectStream (s : State) : State := { s with input := { ahead := [], ended := false, pos := 0 } }

/-- The environment drives `rst` to a level; asserted or released, the block is reset (70_reset_and_hazards.md R270).
DESIGN CHOICE (log 20), a level driven again: R270 names no such event. `false` while `rst` is already released resets the
block as a release does, and `true` while it is already asserted leaves the block held at its reset values. -/
def setRst (level : Bool) (s : State) : State := resetBlock { s with rst := level }

/-- A step of the block: a running command goes on from where it is, an idle block does nothing
(46_control.md R233, 70_reset_and_hazards.md R273). -/
def blockStep (s : State) : Out := if s.status.busy then runWord s.cur s else .next s

/-- One action of the environment (00_scope.md R16, 30_encoding.md R97, log 1); `s` has the action taken off. -/
def envStep (act : EnvAct) (rest : List EnvAct) (s : State) : Out :=
  match act with
  | .write index v => hostWrite index v { s with env := rest }
  | .read index => .next (hostRead index { s with env := rest })
  | .offer b => .next (offerByte b { s with env := rest })
  | .endInput => .next (signalEnd { s with env := rest })
  | .connect => .next (connectStream { s with env := rest })
  | .sink ready => .next { s with env := rest, sinkReady := ready }
  | .rst level => .next (setRst level { s with env := rest })
  | .block => blockStep { s with env := rest }
  | .wait => if s.status.busy then blockStep s else .next { s with env := rest }

/-- The block's steps alone, the environment not acting. -/
def blockRun : Nat → State → Out
  | 0, s => .next s
  | n + 1, s =>
    match blockStep s with
    | .next t => blockRun n t
    | .fault r => .fault r
    | .refused r => .refused r

end Sys2Proof.Machine
end

