-- ==== Sys2Proof/Machine/Step.lean ====
section
/-!
DEFINITION. One step of the machine: the environment's next action, or, when it has none left, the block's.
-/

namespace Sys2Proof.Machine

/-- One step in the single order of block steps and host accesses (20_memory.md R70, log 1, log 2). -/
def step (s : State) : Host.Outcome State Fault Refusal :=
  match s.env with
  | [] => blockStep s
  | act :: rest => envStep act rest s

/-- `s` with the environment about to write the word of an instruction to CMD, and the block ready to accept it: a
command word is not fetched, the host writes it (00_scope.md R3, 10_state.md R22, log 1). -/
def State.withFetchWord (s : State) (nbits w : Nat) : State :=
  { s with env := .write 0x00#8 (BitVec.ofNat 32 (w % 2 ^ nbits)) :: s.env, rst := false, seq := .idle,
           status := { s.status with busy := false, err := false } }

end Sys2Proof.Machine
end

