-- ==== Sys2Proof/Machine/Program.lean ====
section
/-!
DEFINITION. The host's notation: the assembly text of a command (30_encoding.md R96), the lines of a host program
(R97) and the pseudo-instructions (R98), as actions of the environment.
-/

namespace Sys2Proof.Machine

/-- The index of a register in the map (10_state.md R21); a reserved slot has none of its own, 0x0C stands for it. -/
def Reg.index : Reg → Byte
  | .cmd => 0x00#8
  | .status => 0x01#8
  | .errcode => 0x02#8
  | .result => 0x03#8
  | .crcreg => 0x04#8
  | .ftype => 0x05#8
  | .fplen => 0x06#8
  | .fdlen => 0x07#8
  | .fcrc => 0x08#8
  | .mask => 0x09#8
  | .frames => 0x0A#8
  | .incnt => 0x0B#8
  | .bufw k => BitVec.ofNat 8 (0x40 + k)
  | .reserved => 0x0C#8

/-- A character of text as its ASCII byte. -/
def asciiBytes (text : String) : List Byte := text.toList.map fun c => BitVec.ofNat 8 c.toNat

/-- A byte written `0xHH` (30_encoding.md R96). -/
def byteText (b : Byte) : String :=
  "0x" ++ String.ofList [Char.ofNat (hexchar (b.extractLsb' 4 4)).toNat, Char.ofNat (hexchar (b.extractLsb' 0 4)).toNat]

/-- The assembly text of a command (30_encoding.md R96). HEX.DSTR is written with LEN before CAP. -/
def asmText : Instr → String
  | .nop => "NOP"
  | .clear => "CLEAR"
  | .sreset => "SRESET"
  | .hexDpair chi clo => "HEX.DPAIR " ++ byteText chi ++ ", " ++ byteText clo
  | .hexEpair imm => "HEX.EPAIR " ++ byteText imm
  | .hexDstr len cap => "HEX.DSTR " ++ toString len.toNat ++ ", " ++ toString cap.toNat
  | .crcInit => "CRC.INIT"
  | .crcByte imm => "CRC.BYTE " ++ byteText imm
  | .crcFinal => "CRC.FINAL"
  | .crcBuf => "CRC.BUF"
  | .frmDecode => "FRM.DECODE"
  | .frmMaskrd => "FRM.MASKRD"
  | .xfVerify => "XF.VERIFY"
  | .xfPad => "XF.PAD"
  | .xfMask => "XF.MASK"
  | .xfRecomp => "XF.RECOMP"
  | .frmOne => "FRM.ONE"
  | .frmRun => "FRM.RUN"

/-- A line of a host program (30_encoding.md R97). -/
inductive HostLine where
  /-- `WR name, v`. -/
  | wr (r : Reg) (v : Word)
  /-- `RD name`. -/
  | rd (r : Reg)
  /-- `WAIT`. -/
  | wait
  /-- A command mnemonic line: its word to CMD, then WAIT. -/
  | command (i : Instr)
  /-- `IN "text"`. -/
  | input (text : List Byte)
  /-- `IN EOS`. -/
  | inputEos
deriving DecidableEq, Repr

/-- What a line does (30_encoding.md R97). -/
def lineActs : HostLine → List EnvAct
  | .wr r v => [.write r.index v]
  | .rd r => [.read r.index]
  | .wait => [.wait]
  | .command i => [.write Reg.cmd.index (encode i), .wait]
  | .input text => text.map .offer
  | .inputEos => [.endInput]

/-- The pseudo-instructions (30_encoding.md R98). -/
inductive Pseudo where
  /-- `CRC.STR b0, b1, ...`. -/
  | crcStr (bytes : List Byte)
  /-- `LOADBUF n, w0, w1, ...`. -/
  | loadBuf (n : Byte) (words : List Word)
  /-- `TRANSFORM`. -/
  | transform
  /-- `ABORT`, with no WAIT. -/
  | abort
deriving DecidableEq, Repr

/-- `WR BUFWk, w` for successive k. -/
def bufLines : Nat → List Word → List HostLine
  | _, [] => []
  | k, w :: ws => .wr (.bufw k) w :: bufLines (k + 1) ws

/-- The lines a pseudo-instruction expands into (30_encoding.md R98). -/
def pseudoLines : Pseudo → List HostLine
  | .crcStr bytes => .command .crcInit :: (bytes.map fun b => .command (.crcByte b)) ++ [.command .crcFinal]
  | .loadBuf n words => bufLines 0 words ++ [.wr .fdlen (n.setWidth 32)]
  | .transform => [.command .xfVerify, .command .xfPad, .command .xfMask, .command .xfRecomp]
  | .abort => [.wr .cmd sresetWord]

end Sys2Proof.Machine
end

