-- ==== Sys2Proof/Safety.lean ====
section
/-!
DEFINITION. The terms claims use: what counts as a safe state and a safe step, the texts of the wire format, and the
pure forms of what the commands compute.
-/

namespace Sys2Proof.Machine

/-! ## Safe states -/

/-- The sequencer states in which a command can stand between two steps (10_state.md R40, 46_control.md R233). -/
def standsIn (i : Instr) (st : SeqState) : Bool :=
  match i with
  | .frmDecode => [.hdr, .type, .len, .payload, .cksum].contains st
  | .frmMaskrd => [.mhdr, .mval].contains st
  | .frmOne | .frmRun =>
    [.hdr, .type, .len, .payload, .cksum, .mhdr, .mval, .verify, .emit, .pad, .mask, .recomp].contains st
  | .hexDstr _ _ => st == .hexstr
  | .nop | .clear | .sreset | .hexDpair _ _ | .hexEpair _ | .crcInit | .crcByte _ | .crcFinal | .crcBuf => false
  | .xfVerify | .xfPad | .xfMask | .xfRecomp => false

/-- The flags fit together (10_state.md R23, R24). -/
def State.flagsInv (s : State) : Prop :=
  (s.status.err = true ↔ s.errcode ≠ none) ∧ (s.status.err = true ↔ s.status.errstate ≠ .idle) ∧
  ¬(s.status.done = true ∧ s.status.err = true) ∧ (s.status.eosf = true → s.status.done = true) ∧
  (s.status.busy = true → s.status.done = false ∧ s.status.err = false)

/-- The working registers fit the stage (10_state.md R41). -/
def State.stageInv (s : State) : Prop :=
  match s.seq with
  | .hdr | .mhdr => s.k < 5
  | .type | .len => s.k < 2
  | .cksum | .mval => s.k < 8
  | .payload => s.wi < s.fdlen.toNat ∧ s.k / 2 = s.wi
  | .hexstr =>
    s.wi < (lenField s.cur).toNat / 2 ∧ s.k / 2 = s.wi ∧ (lenField s.cur).toNat / 2 ≤ (capField s.cur).toNat
  | .idle | .verify | .pad | .mask | .recomp | .emit | .exec => True

/-- What holds of the sequencer between two steps: a running command is a legal word in one of its states, and a
record waits exactly in EMIT (10_state.md R40, R50). -/
def State.sequencerInv (s : State) : Prop :=
  (s.status.busy = false → s.seq = .idle) ∧
  (s.status.busy = true → ∃ i, decode s.cur = .ok i ∧ standsIn i s.seq = true) ∧
  (s.pending ≠ none ↔ s.seq = .emit)

/-- The invariant: BUF in canonical form, FDLEN legal, flags and sequencer consistent, and the registers held while
`rst` is asserted. -/
def State.Inv (s : State) : Prop :=
  s.buf.wf ∧ s.fdlen.toNat ≤ Config.bufSize ∧ s.flagsInv ∧ s.stageInv ∧ s.sequencerInv ∧
  (s.rst = true → resetBlock s = s)

/-- A step that neither faults nor refuses. -/
def safeStep (s : State) : Prop := ∃ t, step s = .next t

/-! ## Snapshots -/

/-- The invariants of a record at the snapshot points (45_pipeline.md R216). -/
def Snapshot.sound (p : Snapshot) : Prop :=
  p.data.length = p.dataLength.toNat ∧ p.crc32 = Machine.crc32 p.data ∧ 4 ≤ p.payloadLength.toNat ∧
  (p.kind = .pre → p.dataLength.toNat = p.payloadLength.toNat - 4) ∧
  (p.kind = .post → p.dataLength.toNat = roundup4 (p.payloadLength.toNat - 4))

/-- FDLEN against FPLEN as the stages of an iteration go by (43_frame_decoder.md R166, 44_transform.md R192). -/
def State.lengthInv (s : State) : Prop :=
  match s.seq with
  | .payload | .cksum | .mhdr | .mval | .verify | .pad =>
    decode s.cur ≠ .ok .frmMaskrd → 4 ≤ s.fplen.toNat ∧ s.fdlen.toNat = s.fplen.toNat - 4
  | .mask | .recomp => 4 ≤ s.fplen.toNat ∧ s.fdlen.toNat = roundup4 (s.fplen.toNat - 4)
  | .idle | .hdr | .type | .len | .emit | .hexstr | .exec => True

/-- Every record handed over or waiting is sound, and a waiting record shows the registers (45_pipeline.md R216,
10_state.md R47). -/
def State.SnapshotInv (s : State) : Prop :=
  s.Inv ∧ s.lengthInv ∧ (∀ p ∈ s.delivered, p.sound) ∧
  (∀ p ∈ s.pending, p.sound ∧ p = snapshotOf p.kind s s.fdlen.toNat)

/-! ## Wire texts -/

/-- The bytes of a text of hex pairs, in either case of digits; none if it is not one (30_encoding.md R83). -/
def decodePairs : List Byte → Option (List Byte)
  | [] => some []
  | [_] => none
  | h :: l :: rest =>
    match decodeHexPair h l, decodePairs rest with
    | some b, some bs => some (b :: bs)
    | _, _ => none

/-- The upper-case hex pairs of a byte sequence (30_encoding.md R83). -/
def encodePairs : List Byte → List Byte
  | [] => []
  | b :: bs => hexchar (b.extractLsb' 4 4) :: hexchar (b.extractLsb' 0 4) :: encodePairs bs

/-- The bytes of a word, most significant first (20_memory.md R61). -/
def wordBytes (w : Word) : List Byte :=
  [w.extractLsb' 24 8, w.extractLsb' 16 8, w.extractLsb' 8 8, w.extractLsb' 0 8]

/-- `cs` is the text of a frame, parts 1 to 5 of a unit (30_encoding.md R80, R81). -/
def isFrameText (ty : Byte) (data : List Byte) (crc : Word) (cs : List Byte) : Prop :=
  ∃ t l d c, cs = Config.hdrMarker ++ t ++ l ++ d ++ c ∧ data.length ≤ 251 ∧ decodePairs t = some [ty] ∧
    decodePairs l = some [BitVec.ofNat 8 (data.length + 4)] ∧ decodePairs d = some data ∧
    decodePairs c = some (wordBytes crc)

/-- `cs` is the text of a mask, parts 6 and 7 of a unit (30_encoding.md R80, R81). -/
def isMaskText (m : Word) (cs : List Byte) : Prop :=
  ∃ v, cs = Config.maskMarker ++ v ∧ decodePairs v = some (wordBytes m)

/-! ## Pure forms -/

/-- The lane of the mask for byte `i` of a word, bits `31-8i : 24-8i` (44_transform.md R195). -/
def maskLane (mask : Word) (i : Nat) : Byte := mask.extractLsb' (24 - 8 * i) 8

/-- Mask over a byte sequence, byte by byte (44_transform.md R194, R195). -/
def maskBytes (mask : Word) (bytes : List Byte) : List Byte :=
  bytes.mapIdx fun i b =>
    if i / 4 % 2 = 1 ∧ i / 4 < bytes.length / 4 then b &&& maskLane mask (i % 4) else b

/-- A payload after Pad (44_transform.md R192). -/
def padBytes (bytes : List Byte) : List Byte := bytes ++ List.replicate (roundup4 bytes.length - bytes.length) 0#8

/-- One decoded frame unit: its type, data and mask. Its checksum is the CRC of the data. -/
structure FrameUnit where
  type : Byte
  data : List Byte
  mask : Word
deriving DecidableEq, Repr

/-- `cs` is the text of a unit whose checksum is right (30_encoding.md R80). -/
def isUnitText (u : FrameUnit) (cs : List Byte) : Prop :=
  ∃ f m, cs = f ++ m ∧ isFrameText u.type u.data (crc32 u.data) f ∧ isMaskText u.mask m

/-- `cs` is the text of the units, one after the other with nothing between (30_encoding.md R82). -/
def areUnitTexts : List FrameUnit → List Byte → Prop
  | [], cs => cs = []
  | u :: us, cs => ∃ a b, cs = a ++ b ∧ isUnitText u a ∧ areUnitTexts us b

/-- The data of a unit after Pad and Mask (45_pipeline.md R216). -/
def FrameUnit.postData (u : FrameUnit) : List Byte := maskBytes u.mask (padBytes u.data)

/-- The PRE record of a unit (45_pipeline.md R210). -/
def FrameUnit.preRecord (u : FrameUnit) : Snapshot :=
  { kind := .pre, type := u.type, payloadLength := BitVec.ofNat 8 (u.data.length + 4),
    dataLength := BitVec.ofNat 8 u.data.length, crc32 := crc32 u.data, data := u.data }

/-- The POST record of a unit (45_pipeline.md R210). -/
def FrameUnit.postRecord (u : FrameUnit) : Snapshot :=
  { kind := .post, type := u.type, payloadLength := BitVec.ofNat 8 (u.data.length + 4),
    dataLength := BitVec.ofNat 8 (roundup4 u.data.length), crc32 := crc32 u.postData, data := u.postData }

/-- One LSB-first step with the reflected polynomial (42_crc32.md R135). -/
def reflShift (q : Word) : Word := if q.getLsbD 0 then (q >>> 1) ^^^ 0xEDB88320#32 else q >>> 1

/-- `TR[i]`, eight LSB-first steps (42_crc32.md R135). -/
def reflTable (i : Byte) : Word :=
  reflShift (reflShift (reflShift (reflShift (reflShift (reflShift (reflShift (reflShift (i.setWidth 32))))))))

/-- The step of the reflected form (42_crc32.md R135). -/
def reflStep (q : Word) (b : Byte) : Word := (q >>> 8) ^^^ reflTable (q.setWidth 8 ^^^ b)

/-- The CRC in the reflected form (42_crc32.md R135). -/
def crc32Reflected (bytes : List Byte) : Word := bytes.foldl reflStep 0xFFFFFFFF#32 ^^^ 0xFFFFFFFF#32

/-- How far an iteration has come; EMIT stands after Verify or after Recompute (45_pipeline.md R211). -/
def stageRank (s : State) : Nat :=
  match s.seq with
  | .idle => 0
  | .exec => 0
  | .hexstr => 1
  | .hdr => 1
  | .type => 2
  | .len => 3
  | .payload => 4
  | .cksum => 5
  | .mhdr => 6
  | .mval => 7
  | .verify => 8
  | .pad => 10
  | .mask => 11
  | .recomp => 12
  | .emit => if s.pending.map Snapshot.kind = some .pre then 9 else 13

/-! ## The table ROMs as the spec lists them -/

/-- The entries of FWD, row by row (42_crc32.md R130). -/
def fwdTable : List Word :=
  [0x00000000#32, 0x04C11DB7#32, 0x09823B6E#32, 0x0D4326D9#32, 0x130476DC#32, 0x17C56B6B#32, 0x1A864DB2#32, 0x1E475005#32,
    0x2608EDB8#32, 0x22C9F00F#32, 0x2F8AD6D6#32, 0x2B4BCB61#32, 0x350C9B64#32, 0x31CD86D3#32, 0x3C8EA00A#32, 0x384FBDBD#32,
    0x4C11DB70#32, 0x48D0C6C7#32, 0x4593E01E#32, 0x4152FDA9#32, 0x5F15ADAC#32, 0x5BD4B01B#32, 0x569796C2#32, 0x52568B75#32,
    0x6A1936C8#32, 0x6ED82B7F#32, 0x639B0DA6#32, 0x675A1011#32, 0x791D4014#32, 0x7DDC5DA3#32, 0x709F7B7A#32, 0x745E66CD#32] ++
  [0x9823B6E0#32, 0x9CE2AB57#32, 0x91A18D8E#32, 0x95609039#32, 0x8B27C03C#32, 0x8FE6DD8B#32, 0x82A5FB52#32, 0x8664E6E5#32,
    0xBE2B5B58#32, 0xBAEA46EF#32, 0xB7A96036#32, 0xB3687D81#32, 0xAD2F2D84#32, 0xA9EE3033#32, 0xA4AD16EA#32, 0xA06C0B5D#32,
    0xD4326D90#32, 0xD0F37027#32, 0xDDB056FE#32, 0xD9714B49#32, 0xC7361B4C#32, 0xC3F706FB#32, 0xCEB42022#32, 0xCA753D95#32,
    0xF23A8028#32, 0xF6FB9D9F#32, 0xFBB8BB46#32, 0xFF79A6F1#32, 0xE13EF6F4#32, 0xE5FFEB43#32, 0xE8BCCD9A#32, 0xEC7DD02D#32] ++
  [0x34867077#32, 0x30476DC0#32, 0x3D044B19#32, 0x39C556AE#32, 0x278206AB#32, 0x23431B1C#32, 0x2E003DC5#32, 0x2AC12072#32,
    0x128E9DCF#32, 0x164F8078#32, 0x1B0CA6A1#32, 0x1FCDBB16#32, 0x018AEB13#32, 0x054BF6A4#32, 0x0808D07D#32, 0x0CC9CDCA#32,
    0x7897AB07#32, 0x7C56B6B0#32, 0x71159069#32, 0x75D48DDE#32, 0x6B93DDDB#32, 0x6F52C06C#32, 0x6211E6B5#32, 0x66D0FB02#32,
    0x5E9F46BF#32, 0x5A5E5B08#32, 0x571D7DD1#32, 0x53DC6066#32, 0x4D9B3063#32, 0x495A2DD4#32, 0x44190B0D#32, 0x40D816BA#32] ++
  [0xACA5C697#32, 0xA864DB20#32, 0xA527FDF9#32, 0xA1E6E04E#32, 0xBFA1B04B#32, 0xBB60ADFC#32, 0xB6238B25#32, 0xB2E29692#32,
    0x8AAD2B2F#32, 0x8E6C3698#32, 0x832F1041#32, 0x87EE0DF6#32, 0x99A95DF3#32, 0x9D684044#32, 0x902B669D#32, 0x94EA7B2A#32,
    0xE0B41DE7#32, 0xE4750050#32, 0xE9362689#32, 0xEDF73B3E#32, 0xF3B06B3B#32, 0xF771768C#32, 0xFA325055#32, 0xFEF34DE2#32,
    0xC6BCF05F#32, 0xC27DEDE8#32, 0xCF3ECB31#32, 0xCBFFD686#32, 0xD5B88683#32, 0xD1799B34#32, 0xDC3ABDED#32, 0xD8FBA05A#32] ++
  [0x690CE0EE#32, 0x6DCDFD59#32, 0x608EDB80#32, 0x644FC637#32, 0x7A089632#32, 0x7EC98B85#32, 0x738AAD5C#32, 0x774BB0EB#32,
    0x4F040D56#32, 0x4BC510E1#32, 0x46863638#32, 0x42472B8F#32, 0x5C007B8A#32, 0x58C1663D#32, 0x558240E4#32, 0x51435D53#32,
    0x251D3B9E#32, 0x21DC2629#32, 0x2C9F00F0#32, 0x285E1D47#32, 0x36194D42#32, 0x32D850F5#32, 0x3F9B762C#32, 0x3B5A6B9B#32,
    0x0315D626#32, 0x07D4CB91#32, 0x0A97ED48#32, 0x0E56F0FF#32, 0x1011A0FA#32, 0x14D0BD4D#32, 0x19939B94#32, 0x1D528623#32] ++
  [0xF12F560E#32, 0xF5EE4BB9#32, 0xF8AD6D60#32, 0xFC6C70D7#32, 0xE22B20D2#32, 0xE6EA3D65#32, 0xEBA91BBC#32, 0xEF68060B#32,
    0xD727BBB6#32, 0xD3E6A601#32, 0xDEA580D8#32, 0xDA649D6F#32, 0xC423CD6A#32, 0xC0E2D0DD#32, 0xCDA1F604#32, 0xC960EBB3#32,
    0xBD3E8D7E#32, 0xB9FF90C9#32, 0xB4BCB610#32, 0xB07DABA7#32, 0xAE3AFBA2#32, 0xAAFBE615#32, 0xA7B8C0CC#32, 0xA379DD7B#32,
    0x9B3660C6#32, 0x9FF77D71#32, 0x92B45BA8#32, 0x9675461F#32, 0x8832161A#32, 0x8CF30BAD#32, 0x81B02D74#32, 0x857130C3#32] ++
  [0x5D8A9099#32, 0x594B8D2E#32, 0x5408ABF7#32, 0x50C9B640#32, 0x4E8EE645#32, 0x4A4FFBF2#32, 0x470CDD2B#32, 0x43CDC09C#32,
    0x7B827D21#32, 0x7F436096#32, 0x7200464F#32, 0x76C15BF8#32, 0x68860BFD#32, 0x6C47164A#32, 0x61043093#32, 0x65C52D24#32,
    0x119B4BE9#32, 0x155A565E#32, 0x18197087#32, 0x1CD86D30#32, 0x029F3D35#32, 0x065E2082#32, 0x0B1D065B#32, 0x0FDC1BEC#32,
    0x3793A651#32, 0x3352BBE6#32, 0x3E119D3F#32, 0x3AD08088#32, 0x2497D08D#32, 0x2056CD3A#32, 0x2D15EBE3#32, 0x29D4F654#32] ++
  [0xC5A92679#32, 0xC1683BCE#32, 0xCC2B1D17#32, 0xC8EA00A0#32, 0xD6AD50A5#32, 0xD26C4D12#32, 0xDF2F6BCB#32, 0xDBEE767C#32,
    0xE3A1CBC1#32, 0xE760D676#32, 0xEA23F0AF#32, 0xEEE2ED18#32, 0xF0A5BD1D#32, 0xF464A0AA#32, 0xF9278673#32, 0xFDE69BC4#32,
    0x89B8FD09#32, 0x8D79E0BE#32, 0x803AC667#32, 0x84FBDBD0#32, 0x9ABC8BD5#32, 0x9E7D9662#32, 0x933EB0BB#32, 0x97FFAD0C#32,
    0xAFB010B1#32, 0xAB710D06#32, 0xA6322BDF#32, 0xA2F33668#32, 0xBCB4666D#32, 0xB8757BDA#32, 0xB5365D03#32, 0xB1F740B4#32]

/-- The entries of REFL8, row by row (42_crc32.md R131). -/
def refl8Table : List Byte :=
  [0x00#8, 0x80#8, 0x40#8, 0xC0#8, 0x20#8, 0xA0#8, 0x60#8, 0xE0#8,
    0x10#8, 0x90#8, 0x50#8, 0xD0#8, 0x30#8, 0xB0#8, 0x70#8, 0xF0#8,
    0x08#8, 0x88#8, 0x48#8, 0xC8#8, 0x28#8, 0xA8#8, 0x68#8, 0xE8#8,
    0x18#8, 0x98#8, 0x58#8, 0xD8#8, 0x38#8, 0xB8#8, 0x78#8, 0xF8#8] ++
  [0x04#8, 0x84#8, 0x44#8, 0xC4#8, 0x24#8, 0xA4#8, 0x64#8, 0xE4#8,
    0x14#8, 0x94#8, 0x54#8, 0xD4#8, 0x34#8, 0xB4#8, 0x74#8, 0xF4#8,
    0x0C#8, 0x8C#8, 0x4C#8, 0xCC#8, 0x2C#8, 0xAC#8, 0x6C#8, 0xEC#8,
    0x1C#8, 0x9C#8, 0x5C#8, 0xDC#8, 0x3C#8, 0xBC#8, 0x7C#8, 0xFC#8] ++
  [0x02#8, 0x82#8, 0x42#8, 0xC2#8, 0x22#8, 0xA2#8, 0x62#8, 0xE2#8,
    0x12#8, 0x92#8, 0x52#8, 0xD2#8, 0x32#8, 0xB2#8, 0x72#8, 0xF2#8,
    0x0A#8, 0x8A#8, 0x4A#8, 0xCA#8, 0x2A#8, 0xAA#8, 0x6A#8, 0xEA#8,
    0x1A#8, 0x9A#8, 0x5A#8, 0xDA#8, 0x3A#8, 0xBA#8, 0x7A#8, 0xFA#8] ++
  [0x06#8, 0x86#8, 0x46#8, 0xC6#8, 0x26#8, 0xA6#8, 0x66#8, 0xE6#8,
    0x16#8, 0x96#8, 0x56#8, 0xD6#8, 0x36#8, 0xB6#8, 0x76#8, 0xF6#8,
    0x0E#8, 0x8E#8, 0x4E#8, 0xCE#8, 0x2E#8, 0xAE#8, 0x6E#8, 0xEE#8,
    0x1E#8, 0x9E#8, 0x5E#8, 0xDE#8, 0x3E#8, 0xBE#8, 0x7E#8, 0xFE#8] ++
  [0x01#8, 0x81#8, 0x41#8, 0xC1#8, 0x21#8, 0xA1#8, 0x61#8, 0xE1#8,
    0x11#8, 0x91#8, 0x51#8, 0xD1#8, 0x31#8, 0xB1#8, 0x71#8, 0xF1#8,
    0x09#8, 0x89#8, 0x49#8, 0xC9#8, 0x29#8, 0xA9#8, 0x69#8, 0xE9#8,
    0x19#8, 0x99#8, 0x59#8, 0xD9#8, 0x39#8, 0xB9#8, 0x79#8, 0xF9#8] ++
  [0x05#8, 0x85#8, 0x45#8, 0xC5#8, 0x25#8, 0xA5#8, 0x65#8, 0xE5#8,
    0x15#8, 0x95#8, 0x55#8, 0xD5#8, 0x35#8, 0xB5#8, 0x75#8, 0xF5#8,
    0x0D#8, 0x8D#8, 0x4D#8, 0xCD#8, 0x2D#8, 0xAD#8, 0x6D#8, 0xED#8,
    0x1D#8, 0x9D#8, 0x5D#8, 0xDD#8, 0x3D#8, 0xBD#8, 0x7D#8, 0xFD#8] ++
  [0x03#8, 0x83#8, 0x43#8, 0xC3#8, 0x23#8, 0xA3#8, 0x63#8, 0xE3#8,
    0x13#8, 0x93#8, 0x53#8, 0xD3#8, 0x33#8, 0xB3#8, 0x73#8, 0xF3#8,
    0x0B#8, 0x8B#8, 0x4B#8, 0xCB#8, 0x2B#8, 0xAB#8, 0x6B#8, 0xEB#8,
    0x1B#8, 0x9B#8, 0x5B#8, 0xDB#8, 0x3B#8, 0xBB#8, 0x7B#8, 0xFB#8] ++
  [0x07#8, 0x87#8, 0x47#8, 0xC7#8, 0x27#8, 0xA7#8, 0x67#8, 0xE7#8,
    0x17#8, 0x97#8, 0x57#8, 0xD7#8, 0x37#8, 0xB7#8, 0x77#8, 0xF7#8,
    0x0F#8, 0x8F#8, 0x4F#8, 0xCF#8, 0x2F#8, 0xAF#8, 0x6F#8, 0xEF#8,
    0x1F#8, 0x9F#8, 0x5F#8, 0xDF#8, 0x3F#8, 0xBF#8, 0x7F#8, 0xFF#8]

end Sys2Proof.Machine
end

