-- ==== Sys2Proof/Certificates/Slice0/Obligations.lean ====
section
/-!
DEFINITION. The statements for the provers. Each says what a command or the machine does, from the rules of spec/.
-/

open Sys2Proof Sys2Proof.Machine

/-! ## Encoding -/

/-- Decode and encode agree for every legal command, with every operand at every value (30_encoding.md R91, R93). -/
def Obligations.DecodeOfEncodeIsTheCommand : Prop :=
  ∀ i : Instr, i.wellFormed = true → decode (encode i) = .ok i

/-- Each legal word is the word of exactly the command it selects, so no bit is dropped (30_encoding.md R95). -/
def Obligations.EncodeOfDecodeIsTheWord : Prop :=
  ∀ (w : Word) (i : Instr), decode w = .ok i → encode i = w ∧ i.wellFormed = true

/-- The illegal words are those of 30_encoding.md R94(a), (b) and (c), and no others. -/
def Obligations.IllegalWordsAreThoseOfTheThreeCases : Prop :=
  ∀ w : Word,
    (∃ e, decode w = .error e) ↔
      (w.extractLsb' 24 8).toNat ∉
          [0x00, 0x01, 0x02, 0x10, 0x11, 0x12, 0x20, 0x21, 0x22, 0x23, 0x30, 0x31, 0x40, 0x41, 0x42, 0x43, 0x50, 0x51]
        ∨ ((w.extractLsb' 24 8).toNat ∈
            [0x00, 0x01, 0x02, 0x20, 0x22, 0x23, 0x30, 0x31, 0x40, 0x41, 0x42, 0x43, 0x50, 0x51]
          ∧ w.extractLsb' 0 24 ≠ 0)
        ∨ ((w.extractLsb' 24 8).toNat ∈ [0x11, 0x21] ∧ w.extractLsb' 8 16 ≠ 0)
        ∨ ((w.extractLsb' 24 8).toNat = 0x10 ∧ w.extractLsb' 16 8 ≠ 0)
        ∨ ((w.extractLsb' 24 8).toNat = 0x12 ∧ w.extractLsb' 10 6 ≠ 0)
        ∨ ((w.extractLsb' 24 8).toNat = 0x12 ∧ 252 < (w.extractLsb' 16 8).toNat)

/-- Words of the spec's own examples, one or more of each format and family (41 R115 to R117, 42 R138 to R141, 44 R190,
45 R214, 46 R236 to R238). -/
def Obligations.ExampleWordsDecodeToTheirCommands : Prop :=
  decode 0x00000000#32 = .ok .nop ∧ decode 0x01000000#32 = .ok .clear ∧ decode 0x02000000#32 = .ok .sreset ∧
  decode 0x10003431#32 = .ok (.hexDpair 0x34#8 0x31#8) ∧ decode 0x110000A5#32 = .ok (.hexEpair 0xA5#8) ∧
  decode 0x12040008#32 = .ok (.hexDstr 8#10 4#8) ∧ decode 0x21000061#32 = .ok (.crcByte 0x61#8) ∧
  decode 0x40000000#32 = .ok .xfVerify ∧ decode 0x51000000#32 = .ok .frmRun

/-! ## Acceptance and steps -/

/-- A step runs the accepted word: for each accepting entry of the acceptance table, the command the word selects runs
in the state 46_control.md R231 prepares, and an illegal word raises IllegalCommand there. SRESET runs its own rule,
BUSY or not, and BUSY is not set. -/
def Obligations.StepRunsTheAcceptedCommand : Prop :=
  ∀ (s : State) (w : Word) (rest : List EnvAct),
    s.env = .write 0x00#8 w :: rest → s.rst = false →
    (w = 0x02000000#32 → step s = exec .sreset { s with env := rest }) ∧
    (w ≠ 0x02000000#32 → s.status.busy = false → (s.status.err = false ∨ w = 0x01000000#32) →
      (∀ i, decode w = .ok i →
        step s = exec i { s with env := rest, cur := w, seq := .exec,
                                 status := { s.status with busy := true, done := false, eosf := false } }) ∧
      (∀ e, decode w = .error e →
        step s = .next (raiseError .illegalCommand .exec
          { s with env := rest, cur := w, seq := .exec,
                   status := { s.status with busy := true, done := false, eosf := false } })))

/-- A running command's next block step is a call of its meaning, whether the environment gives the block the turn, has
nothing left to do, or polls STATUS (46_control.md, section 1; 20_memory.md, section 5). Three things in it are the model's
choice: that a later block step is `exec` of the same command (notes/assumptions/8.md), that an environment with nothing
left to do gives the block every turn (notes/assumptions/2.md), and that WAIT is one action that gives the block the turn
while BUSY = 1 (notes/assumptions/19.md). -/
def Obligations.StepContinuesTheRunningCommand : Prop :=
  ∀ (s : State) (i : Instr), s.status.busy = true → decode s.cur = .ok i →
    (∀ rest, s.env = .block :: rest → step s = exec i { s with env := rest }) ∧
    (s.env = [] → step s = exec i s) ∧
    (∀ rest, s.env = .wait :: rest → step s = exec i s)

/-- A dropped word sets OVR and changes nothing else, for each dropping entry of the acceptance table; OVR then stays
until CLEAR or reset (46_control.md R230, R232). -/
def Obligations.DroppedWordOnlySetsOvr : Prop :=
  (∀ (s : State) (w : Word) (rest : List EnvAct),
    s.env = .write 0x00#8 w :: rest → s.rst = false → w ≠ 0x02000000#32 →
    (s.status.busy = true ∨ (s.status.err = true ∧ w ≠ 0x01000000#32)) →
    step s = .next { s with env := rest, status := { s.status with ovr := true } }) ∧
  (∀ s t : State, s.Inv → step s = .next t → s.status.ovr = true → t.status.ovr = false →
    (∃ rest, s.env = .write 0x00#8 0x01000000#32 :: rest) ∨ (∃ rest, s.env = .write 0x00#8 0x02000000#32 :: rest) ∨
    (∃ level rest, s.env = .rst level :: rest))

/-- An accepted illegal word raises IllegalCommand in EXEC and writes no register but STATUS and ERRCODE; the working
register `cur` has taken the word (60_exceptions.md R241). -/
def Obligations.IllegalCommandWritesOnlyStatusAndErrcode : Prop :=
  ∀ (s : State) (w : Word) (rest : List EnvAct) (e : DecodeError),
    s.env = .write 0x00#8 w :: rest → s.rst = false → s.status.busy = false → s.status.err = false →
    decode w = .error e →
    step s = .next { s with
      env := rest, cur := w, seq := .idle, errcode := some .illegalCommand,
      status := { busy := false, done := false, err := true, eosf := false, ovr := s.status.ovr, errstate := .exec } }

/-! ## Control commands -/

/-- NOP (46_control.md R236): its word, its effect, alone and with its acceptance, its illegal neighbours, and its drop
while an error is latched. -/
def Obligations.NopOnlyFinishes : Prop :=
  (∀ w, decode w = .ok .nop ↔ w = 0x00000000#32) ∧
  (∀ s rest, s.env = .write 0x00#8 0x00000000#32 :: rest → s.rst = false → s.status.busy = false →
    s.status.err = false →
    step s = .next { s with
      env := rest, cur := 0x00000000#32, seq := .idle,
      status := { s.status with busy := false, done := true, eosf := false } }) ∧
  (∀ s (w : Word) rest, w.extractLsb' 24 8 = 0x00#8 → w ≠ 0x00000000#32 →
    s.env = .write 0x00#8 w :: rest → s.rst = false → s.status.busy = false → s.status.err = false →
    step s = .next { s with
      env := rest, cur := w, seq := .idle, errcode := some .illegalCommand,
      status := { busy := false, done := false, err := true, eosf := false, ovr := s.status.ovr, errstate := .exec } }) ∧
  (∀ s, exec .nop s = .next { s with status := { s.status with busy := false, done := true }, seq := .idle }) ∧
  (∀ s rest, s.env = .write 0x00#8 0x00000000#32 :: rest → s.rst = false → s.status.busy = false →
    s.status.err = true → step s = .next { s with env := rest, status := { s.status with ovr := true } })

/-- CLEAR (46_control.md R237): its word, its effect, and that it is accepted with or without a latched error. -/
def Obligations.ClearOnlyClearsTheLatchedError : Prop :=
  (∀ w, decode w = .ok .clear ↔ w = 0x01000000#32) ∧
  (∀ s, exec .clear s = .next { s with
    status := { s.status with busy := false, done := true, err := false, ovr := false, errstate := .idle },
    errcode := none, seq := .idle }) ∧
  (∀ s rest, s.env = .write 0x00#8 0x01000000#32 :: rest → s.rst = false → s.status.busy = false →
    step s = .next { s with
      env := rest, cur := 0x01000000#32, seq := .idle, errcode := none,
      status := { busy := false, done := true, err := false, eosf := false, ovr := false, errstate := .idle } })

/-- SRESET (46_control.md R238): its word, its effect, and that it is accepted in every state. -/
def Obligations.SresetResetsAndLeavesBufAndPorts : Prop :=
  (∀ w, decode w = .ok .sreset ↔ w = 0x02000000#32) ∧
  (∀ s, exec .sreset s = .next { s with
    status := { busy := false, done := false, err := false, eosf := false, ovr := false, errstate := .idle },
    errcode := none, result := 0#32, crcreg := 0xFFFFFFFF#32, ftype := 0#8, fplen := 0#8, fdlen := 0#8, fcrc := 0#32,
    mask := 0#32, frames := 0#32, incnt := 0#32, seq := .idle, pending := none }) ∧
  (∀ s rest, s.env = .write 0x00#8 0x02000000#32 :: rest → s.rst = false →
    step s = exec .sreset { s with env := rest })

/-! ## Hex codec -/

/-- The digit functions and the pair decoder (41_hex_codec.md R110, R111, R112). -/
def Obligations.HexDigitsAndPairs : Prop :=
  (∀ c : Byte,
    (0x30 ≤ c.toNat ∧ c.toNat ≤ 0x39 → hexval c = some (BitVec.ofNat 4 (c.toNat - 0x30))) ∧
    (0x41 ≤ c.toNat ∧ c.toNat ≤ 0x46 → hexval c = some (BitVec.ofNat 4 (c.toNat - 0x37))) ∧
    (0x61 ≤ c.toNat ∧ c.toNat ≤ 0x66 → hexval c = some (BitVec.ofNat 4 (c.toNat - 0x57))) ∧
    (c.toNat < 0x30 ∨ (0x39 < c.toNat ∧ c.toNat < 0x41) ∨ (0x46 < c.toNat ∧ c.toNat < 0x61) ∨ 0x66 < c.toNat →
      hexval c = none)) ∧
  (∀ n : BitVec 4,
    (n.toNat ≤ 9 → (hexchar n).toNat = 0x30 + n.toNat) ∧ (10 ≤ n.toNat → (hexchar n).toNat = 0x37 + n.toNat) ∧
    hexval (hexchar n) = some n) ∧
  (∀ chi clo : Byte,
    (hexval chi = none ∨ hexval clo = none → decodeHexPair chi clo = none) ∧
    (∀ h l, hexval chi = some h → hexval clo = some l →
      decodeHexPair chi clo = some ((h.setWidth 8 <<< 4) ||| l.setWidth 8)))

/-- HEX.DPAIR (41_hex_codec.md R115): its words, its result, and ConversionError. -/
def Obligations.HexDpairDecodesAPair : Prop :=
  (∀ w chi clo, decode w = .ok (.hexDpair chi clo) ↔ w = 0x1000#16 ++ chi ++ clo) ∧
  (∀ s chi clo h l, hexval chi = some h → hexval clo = some l →
    exec (.hexDpair chi clo) s = .next { s with
      result := ((h.setWidth 32) <<< 4) ||| l.setWidth 32,
      status := { s.status with busy := false, done := true }, seq := .idle }) ∧
  (∀ s chi clo, hexval chi = none ∨ hexval clo = none →
    exec (.hexDpair chi clo) s = .next { s with
      status := { s.status with busy := false, done := false, err := true, errstate := .exec },
      errcode := some .conversion, seq := .idle })

/-- HEX.EPAIR (41_hex_codec.md R116): its words, its result, and that HEX.DPAIR undoes it. -/
def Obligations.HexEpairEncodesAByte : Prop :=
  (∀ w imm, decode w = .ok (.hexEpair imm) ↔ w = 0x110000#24 ++ imm) ∧
  (∀ (s : State) (imm : Byte), exec (.hexEpair imm) s = .next { s with
    result := 0#16 ++ hexchar (imm.extractLsb' 4 4) ++ hexchar (imm.extractLsb' 0 4),
    status := { s.status with busy := false, done := true }, seq := .idle }) ∧
  (∀ (s : State) (imm : Byte), exec (.hexDpair (hexchar (imm.extractLsb' 4 4)) (hexchar (imm.extractLsb' 0 4))) s = .next { s with
    result := imm.setWidth 32, status := { s.status with busy := false, done := true }, seq := .idle })

/-- HEX.DSTR before it reads: its words, its checks in their order, the empty string, and the start
(41_hex_codec.md, section 3; 60_exceptions.md, section 2; 30_encoding.md, section 2). That a string of no characters
finishes in the accepting step is the model's reading, notes/assumptions/14.md. -/
def Obligations.HexDstrChecksLengthThenCapacity : Prop :=
  (∀ w len cap, decode w = .ok (.hexDstr len cap) ↔ cap.toNat ≤ 252 ∧ w = 0x12#8 ++ cap ++ 0#6 ++ len) ∧
  (∀ (s : State) (len : BitVec 10) (cap : Byte), s.seq = .exec → cap.toNat ≤ 252 →
    exec (.hexDstr len cap) s =
      if len.toNat % 2 = 1 then .next (raiseError .invalidLength .exec s)
      else if len.toNat / 2 > cap.toNat then .next (raiseError .bufferTooSmall .exec s)
      else if len.toNat = 0 then
        .next { s with result := 0#32, status := { s.status with busy := false, done := true }, seq := .idle }
      else .next { s with seq := .hexstr, k := 0, acc := 0#32, wi := 0 })

/-- HEX.DSTR on a text of hex pairs: after one block step per character the bytes stand in BUF from index 0, every
other byte and register is as it was, and RESULT is their count (41_hex_codec.md, section 3). The working registers
`k`, `acc`, `hi` and `wi` are left open. That the empty text takes no step after the accepting one is the model's reading,
notes/assumptions/14.md. -/
def Obligations.HexDstrStoresTheDecodedText : Prop :=
  ∀ (s : State) (len : BitVec 10) (cap : Byte) (cs rest data : List Byte),
    s.seq = .exec → s.status.busy = true → s.cur = encode (.hexDstr len cap) → cap.toNat ≤ 252 →
    decodePairs cs = some data → cs.length = len.toNat → data.length ≤ cap.toNat → s.input.ahead = cs ++ rest →
    ∃ t0 t, exec (.hexDstr len cap) s = .next t0 ∧ blockRun cs.length t0 = .next t ∧
      t = { s with
        buf := t.buf, k := t.k, acc := t.acc, hi := t.hi, wi := t.wi, result := BitVec.ofNat 32 data.length,
        incnt := s.incnt + BitVec.ofNat 32 cs.length,
        input := { s.input with ahead := rest, pos := s.input.pos + cs.length },
        status := { s.status with busy := false, done := true }, seq := .idle } ∧
      ∀ a, t.buf.byteAt a = (data[a]?).getD (s.buf.byteAt a)

/-- Encode-then-decode is the identity, for a byte and for a byte sequence (41_hex_codec.md, section 4). That the empty
sequence takes no step after the accepting one is the model's reading, notes/assumptions/14.md. -/
def Obligations.EncodeThenDecodeIsTheIdentity : Prop :=
  (∀ (s : State) (b : Byte), ∃ t ch cl, exec (.hexEpair b) s = .next t ∧ t.result = (0#16 ++ ch ++ cl : Word) ∧
    decodeHexPair ch cl = some b) ∧
  (∀ (s : State) (data rest : List Byte), data.length ≤ 252 → s.seq = .exec → s.status.busy = true →
    s.cur = encode (.hexDstr (BitVec.ofNat 10 (2 * data.length)) (BitVec.ofNat 8 data.length)) →
    s.input.ahead = encodePairs data ++ rest →
    ∃ t0 t, exec (.hexDstr (BitVec.ofNat 10 (2 * data.length)) (BitVec.ofNat 8 data.length)) s = .next t0 ∧
      blockRun (2 * data.length) t0 = .next t ∧ t.status.done = true ∧ t.buf.bytes data.length = data)

/-! ## CRC-32 engine -/

/-- The table ROMs hold the entries the spec lists: every entry of FWD is its row's in the table of 42_crc32.md R130, where
a remark above the table gives another value for the entry 0x80, so that following the table is the model's reading
(notes/assumptions/18.md), and every entry of REFL8 is its
row's and the bit reversal of its index (42_crc32.md R131). -/
def Obligations.TableRomsHoldTheirEntries : Prop :=
  fwdTable.length = 256 ∧ (∀ i : Byte, fwdTable[i.toNat]? = some (fwd i)) ∧
  refl8Table.length = 256 ∧ (∀ b : Byte, refl8Table[b.toNat]? = some (refl8 b)) ∧
  ∀ (b : Byte) (i : Nat), i < 8 → (refl8 b).getLsbD i = b.getLsbD (7 - i)

/-- CRC.INIT (42_crc32.md R138). -/
def Obligations.CrcInitStartsACrc : Prop :=
  (∀ w, decode w = .ok .crcInit ↔ w = 0x20000000#32) ∧
  (∀ s, exec .crcInit s = .next { s with
    crcreg := 0xFFFFFFFF#32, status := { s.status with busy := false, done := true }, seq := .idle })

/-- CRC.BYTE (42_crc32.md R139), with its corner cases and its example. -/
def Obligations.CrcByteMakesOneTableStep : Prop :=
  (∀ w imm, decode w = .ok (.crcByte imm) ↔ w = 0x210000#24 ++ imm) ∧
  (∀ s imm, exec (.crcByte imm) s = .next { s with
    crcreg := (s.crcreg <<< 8) ^^^ fwd ((s.crcreg >>> 24).setWidth 8 ^^^ refl8 imm),
    status := { s.status with busy := false, done := true }, seq := .idle }) ∧
  crcStep 0xFFFFFFFF#32 0xFF#8 = 0xFFFFFF00#32 ∧ crcStep 0xFFFFFFFF#32 0x00#8 = 0x4E08BFB4#32 ∧
  crcStep 0xFFFFFFFF#32 0x61#8 = 0x3D8212E8#32

/-- CRC.FINAL (42_crc32.md R140), with its corner cases and its example. -/
def Obligations.CrcFinalTransformsIntoResult : Prop :=
  (∀ w, decode w = .ok .crcFinal ↔ w = 0x22000000#32) ∧
  (∀ s, exec .crcFinal s = .next { s with
    result := (s.crcreg ^^^ 0xFFFFFFFF#32).reverse,
    status := { s.status with busy := false, done := true }, seq := .idle }) ∧
  crcFinal 0xFFFFFFFF#32 = 0x00000000#32 ∧ crcFinal 0x00000000#32 = 0xFFFFFFFF#32 ∧
  crcFinal 0x3D8212E8#32 = 0xE8B7BE43#32 ∧ crc32 [0x61#8] = 0xE8B7BE43#32

/-- CRC.BUF (42_crc32.md R141): over whatever bytes BUF holds, those nothing has written included. The premise is
10_state.md R29's, kept by every step. -/
def Obligations.CrcBufTakesTheCrcOfThePayload : Prop :=
  (∀ w, decode w = .ok .crcBuf ↔ w = 0x23000000#32) ∧
  (∀ s : State, s.fdlen.toNat ≤ 252 → exec .crcBuf s = .next { s with
    crcreg := ((List.range s.fdlen.toNat).map s.buf.byteAt).foldl crcStep 0xFFFFFFFF#32,
    result := crc32 ((List.range s.fdlen.toNat).map s.buf.byteAt),
    status := { s.status with busy := false, done := true }, seq := .idle }) ∧
  crc32 [] = 0x00000000#32 ∧ crc32 [0x31#8, 0x32#8, 0x33#8, 0x34#8] = 0x9BE3E0A3#32 ∧
  crcRegister 0xFFFFFFFF#32 [0x31#8, 0x32#8, 0x33#8, 0x34#8] = 0x3AF83826#32

/-- The reflected form gives the same CRC for every input: the tables, one step, the whole (42_crc32.md R135). -/
def Obligations.ReflectedCrcEqualsTheForwardCrc : Prop :=
  (0x04C11DB7#32).reverse = 0xEDB88320#32 ∧ (∀ i : Byte, reflTable i = (fwd i.reverse).reverse) ∧
  (∀ (r : Word) (b : Byte), (crcStep r b).reverse = reflStep r.reverse b) ∧
  (∀ r : Word, crcFinal r = r.reverse ^^^ 0xFFFFFFFF#32) ∧
  (∀ bytes : List Byte, crc32 bytes = crc32Reflected bytes)

/-- The pseudo-instruction CRC.STR, run by the machine from an idle block, leaves the CRC of its bytes in RESULT and
changes nothing else but CRCREG, STATUS and `cur` (42_crc32.md, section 3; 30_encoding.md, section 3). Its lines stand one
after the other, with no other command between them. The count of steps, two for each line, rests on WAIT being one action
of the environment, which is the model's choice, notes/assumptions/19.md. -/
def Obligations.CrcStrLeavesTheCrcOfItsBytes : Prop :=
  ∀ (s : State) (bytes : List Byte),
    s.rst = false → s.status.busy = false → s.status.err = false →
    s.env = (pseudoLines (.crcStr bytes)).flatMap lineActs →
    Host.Core.run Sys2Proof.core (2 * bytes.length + 4) s = .next { s with
      env := [], cur := 0x22000000#32, seq := .idle, crcreg := crcRegister 0xFFFFFFFF#32 bytes, result := crc32 bytes,
      status := { s.status with busy := false, done := true, eosf := false } }

/-! ## Frame decoder and mask reader -/

/-- FRM.DECODE, FRM.MASKRD, FRM.ONE and FRM.RUN when they are accepted: their words; the first marker is expected; and
at end-of-input FRM.DECODE, FRM.ONE and FRM.RUN finish at once with EOSF and RESULT 0 (43_frame_decoder.md, section 4;
45_pipeline.md, section 2; 70_reset_and_hazards.md, section 4). That they do so in the accepting step is the model's
reading, notes/assumptions/13.md. -/
def Obligations.FrameCommandsStartAtTheirMarker : Prop :=
  (∀ w, decode w = .ok .frmDecode ↔ w = 0x30000000#32) ∧ (∀ w, decode w = .ok .frmMaskrd ↔ w = 0x31000000#32) ∧
  (∀ w, decode w = .ok .frmOne ↔ w = 0x50000000#32) ∧ (∀ w, decode w = .ok .frmRun ↔ w = 0x51000000#32) ∧
  (∀ s : State, s.seq = .exec → ¬(s.input.ahead = [] ∧ s.input.ended = true) →
    exec .frmDecode s = .next { s with seq := .hdr, k := 0, acc := 0#32 } ∧
    exec .frmOne s = .next { s with seq := .hdr, k := 0, acc := 0#32, nf := 0#32 } ∧
    exec .frmRun s = .next { s with seq := .hdr, k := 0, acc := 0#32, nf := 0#32 }) ∧
  (∀ s : State, s.seq = .exec → s.input.ahead = [] → s.input.ended = true →
    exec .frmDecode s = .next { s with
      seq := .idle, k := 0, acc := 0#32, result := 0#32,
      status := { s.status with busy := false, done := true, eosf := true } } ∧
    exec .frmOne s = .next { s with
      seq := .idle, k := 0, acc := 0#32, nf := 0#32, result := 0#32,
      status := { s.status with busy := false, done := true, eosf := true } } ∧
    exec .frmRun s = .next { s with
      seq := .idle, k := 0, acc := 0#32, nf := 0#32, result := 0#32,
      status := { s.status with busy := false, done := true, eosf := true } }) ∧
  (∀ s : State, s.seq = .exec → exec .frmMaskrd s = .next { s with seq := .mhdr, k := 0, acc := 0#32 })

/-- FRM.DECODE on the text of a frame, in either case of digits: one block step per character, and then type, length,
data and claimed checksum stand in their registers and BUF, RESULT is 1, and nothing else has changed but the working
registers `k`, `acc`, `hi`, `wi`; the text has 2 x FPLEN + 9 characters (43_frame_decoder.md, sections 2 and 4). -/
def Obligations.FrmDecodeReadsAFrame : Prop :=
  ∀ (s : State) (ty : Byte) (data : List Byte) (crc : Word) (cs rest : List Byte),
    s.seq = .exec → s.status.busy = true → s.cur = encode .frmDecode →
    isFrameText ty data crc cs → s.input.ahead = cs ++ rest →
    cs.length = 2 * (data.length + 4) + 9 ∧
    ∃ t0 t, exec .frmDecode s = .next t0 ∧ blockRun cs.length t0 = .next t ∧
      t = { s with
        buf := t.buf, k := t.k, acc := t.acc, hi := t.hi, wi := t.wi, ftype := ty,
        fplen := BitVec.ofNat 8 (data.length + 4), fdlen := BitVec.ofNat 8 data.length, fcrc := crc, result := 1#32,
        incnt := s.incnt + BitVec.ofNat 32 cs.length,
        input := { s.input with ahead := rest, pos := s.input.pos + cs.length },
        status := { s.status with busy := false, done := true }, seq := .idle } ∧
      ∀ a, t.buf.byteAt a = (data[a]?).getD (s.buf.byteAt a)

/-- FRM.MASKRD on the text of a mask: after its 13 characters MASK and RESULT hold the mask and nothing else has
changed but the working registers `k`, `acc` and `hi`; BUF is as it was (43_frame_decoder.md, sections 3 and 4). -/
def Obligations.FrmMaskrdReadsAMask : Prop :=
  ∀ (s : State) (m : Word) (cs rest : List Byte),
    s.seq = .exec → s.status.busy = true → s.cur = encode .frmMaskrd → isMaskText m cs → s.input.ahead = cs ++ rest →
    cs.length = 13 ∧
    ∃ t0 t, exec .frmMaskrd s = .next t0 ∧ blockRun 13 t0 = .next t ∧
      t = { s with
        k := t.k, acc := t.acc, hi := t.hi, mask := m, result := m, incnt := s.incnt + 13#32,
        input := { s.input with ahead := rest, pos := s.input.pos + 13 },
        status := { s.status with busy := false, done := true }, seq := .idle }

/-- A hex field of any command, at any of its characters: a port that offers nothing leaves everything as it is; end of
input raises the stage's short-read error with nothing consumed; a character that is no digit is consumed and raises
ConversionError; a digit is consumed and kept, as the high nibble of a pair or behind the nibbles before it. No other
register changes (41_hex_codec.md R113, with the kinds of 43_frame_decoder.md R151). -/
def Obligations.HexFieldsWaitOrFailAtTheFirstBadCharacter : Prop :=
  ∀ (i : Instr) (s : State) (short : ErrKind),
    ((s.seq = .type ∨ s.seq = .len ∨ s.seq = .cksum) ∧ short = .conversion ∧ (i = .frmDecode ∨ i = .frmOne ∨ i = .frmRun)) ∨
    (s.seq = .payload ∧ short = .unexpectedLength ∧ (i = .frmDecode ∨ i = .frmOne ∨ i = .frmRun)) ∨
    (s.seq = .mval ∧ short = .conversion ∧ (i = .frmMaskrd ∨ i = .frmOne ∨ i = .frmRun)) ∨
    (s.seq = .hexstr ∧ short = .unexpectedLength ∧ ∃ len cap, i = .hexDstr len cap) →
    (s.input.ahead = [] → s.input.ended = false → exec i s = .next s) ∧
    (s.input.ahead = [] → s.input.ended = true →
      exec i s = .next { s with
        status := { s.status with busy := false, done := false, err := true, errstate := s.seq },
        errcode := some short, seq := .idle }) ∧
    (∀ c rest, s.input.ahead = c :: rest → hexval c = none →
      exec i s = .next { s with
        status := { s.status with busy := false, done := false, err := true, errstate := s.seq },
        errcode := some .conversion, seq := .idle, incnt := s.incnt + 1#32,
        input := { s.input with ahead := rest, pos := s.input.pos + 1 } }) ∧
    (∀ c rest n, s.input.ahead = c :: rest → hexval c = some n →
      (s.seq = .type ∨ s.seq = .len ∨ s.seq = .payload ∨ s.seq = .hexstr) → s.k % 2 = 0 →
      exec i s = .next { s with
        hi := n, k := s.k + 1, incnt := s.incnt + 1#32,
        input := { s.input with ahead := rest, pos := s.input.pos + 1 } }) ∧
    (∀ c rest n, s.input.ahead = c :: rest → hexval c = some n → (s.seq = .cksum ∨ s.seq = .mval) → s.k < 7 →
      exec i s = .next { s with
        acc := (s.acc <<< 4) ||| n.setWidth 32, k := s.k + 1, incnt := s.incnt + 1#32,
        input := { s.input with ahead := rest, pos := s.input.pos + 1 } })

/-- A marker of any command, at any of its five bytes: a byte that agrees is consumed, and after the fifth the field
behind the marker is read; a byte that differs is consumed and raises FrameFormatError; end of input raises it too, with nothing consumed, except before the first header byte, where the command ends at
EndOfStream without an error (43_frame_decoder.md R152, with R161 and R167). The header's five bytes are `mess=`, the
mask's `mask=`. -/
def Obligations.MarkersFailAtTheFirstDifferentByte : Prop :=
  ∀ (i : Instr) (s : State) (marker : List Byte),
    (s.seq = .hdr ∧ marker = [0x6D#8, 0x65#8, 0x73#8, 0x73#8, 0x3D#8] ∧ (i = .frmDecode ∨ i = .frmOne ∨ i = .frmRun)) ∨
    (s.seq = .mhdr ∧ marker = [0x6D#8, 0x61#8, 0x73#8, 0x6B#8, 0x3D#8] ∧ (i = .frmMaskrd ∨ i = .frmOne ∨ i = .frmRun)) →
    s.k < 5 →
    (s.input.ahead = [] → s.input.ended = false → exec i s = .next s) ∧
    (∀ c rest, s.input.ahead = c :: rest → marker[s.k]? ≠ some c →
      exec i s = .next { s with
        status := { s.status with busy := false, done := false, err := true, errstate := s.seq },
        errcode := some .frameFormat, seq := .idle, incnt := s.incnt + 1#32,
        input := { s.input with ahead := rest, pos := s.input.pos + 1 } }) ∧
    (∀ c rest, s.input.ahead = c :: rest → marker[s.k]? = some c → s.k < 4 →
      exec i s = .next { s with
        k := s.k + 1, incnt := s.incnt + 1#32, input := { s.input with ahead := rest, pos := s.input.pos + 1 } }) ∧
    (∀ c rest, s.input.ahead = c :: rest → marker[s.k]? = some c → s.k = 4 →
      exec i s = .next { s with
        k := 0, acc := 0#32, seq := if s.seq = .hdr then SeqState.type else SeqState.mval, incnt := s.incnt + 1#32,
        input := { s.input with ahead := rest, pos := s.input.pos + 1 } }) ∧
    (s.input.ahead = [] → s.input.ended = true → s.seq = .mhdr ∨ 0 < s.k →
      exec i s = .next { s with
        status := { s.status with busy := false, done := false, err := true, errstate := s.seq },
        errcode := some .frameFormat, seq := .idle }) ∧
    (s.input.ahead = [] → s.input.ended = true → s.seq = .hdr → s.k = 0 →
      ∃ v, exec i s = .next { s with
        status := { s.status with busy := false, done := true, eosf := true }, result := v, seq := .idle } ∧
        (i = .frmDecode → v = 0#32) ∧ (i ≠ .frmDecode → v = s.nf))

/-- ReadLength at its second character: FPLEN takes the byte; below 4 it is FrameFormatError in LEN and FDLEN keeps its
value; from 4 on FDLEN is the byte less 4, and the payload, or without data the checksum, is read next
(43_frame_decoder.md R163). -/
def Obligations.ReadLengthRejectsLengthsBelowFour : Prop :=
  ∀ (i : Instr) (s : State) (c : Byte) (rest : List Byte) (n : BitVec 4) (v : Byte),
    (i = .frmDecode ∨ i = .frmOne ∨ i = .frmRun) → s.seq = .len → s.k = 1 →
    s.input.ahead = c :: rest → hexval c = some n → v = s.hi ++ n →
    (v.toNat < 4 → exec i s = .next { s with
      fplen := v, incnt := s.incnt + 1#32, input := { s.input with ahead := rest, pos := s.input.pos + 1 }, k := 2,
      status := { s.status with busy := false, done := false, err := true, errstate := .len },
      errcode := some .frameFormat, seq := .idle }) ∧
    (4 ≤ v.toNat → ∃ t, exec i s = .next t ∧ t.fplen = v ∧ t.fdlen.toNat = v.toNat - 4 ∧ t.fdlen.toNat ≤ 251 ∧
      t.seq = (if v.toNat = 4 then SeqState.cksum else SeqState.payload) ∧
      t = { s with
        fplen := v, fdlen := t.fdlen, incnt := s.incnt + 1#32, k := 0, acc := 0#32, wi := t.wi, seq := t.seq,
        input := { s.input with ahead := rest, pos := s.input.pos + 1 } })

/-! ## Integrity and transform stage -/

/-- XF.VERIFY and the stage Verify of FRM.ONE and FRM.RUN (44_transform.md R190): the command writes RESULT before the
comparison, the stage does not write it; a stage that passes goes on to hand over the PRE record. -/
def Obligations.VerifyComparesTheCrcWithFcrc : Prop :=
  (∀ w, decode w = .ok .xfVerify ↔ w = 0x40000000#32) ∧
  (∀ s : State, s.fdlen.toNat ≤ 252 →
    (crc32 (s.buf.bytes s.fdlen.toNat) = s.fcrc →
      exec .xfVerify s = .next { s with
        crcreg := crcRegister 0xFFFFFFFF#32 (s.buf.bytes s.fdlen.toNat), result := s.fcrc,
        status := { s.status with busy := false, done := true }, seq := .idle }) ∧
    (crc32 (s.buf.bytes s.fdlen.toNat) ≠ s.fcrc →
      exec .xfVerify s = .next { s with
        crcreg := crcRegister 0xFFFFFFFF#32 (s.buf.bytes s.fdlen.toNat),
        result := crc32 (s.buf.bytes s.fdlen.toNat), errcode := some .checksum,
        status := { s.status with busy := false, done := false, err := true, errstate := .verify }, seq := .idle })) ∧
  (∀ (i : Instr) (s : State), (i = .frmOne ∨ i = .frmRun) → s.seq = .verify → s.fdlen.toNat ≤ 252 →
    (crc32 (s.buf.bytes s.fdlen.toNat) = s.fcrc →
      exec i s = .next { s with
        crcreg := crcRegister 0xFFFFFFFF#32 (s.buf.bytes s.fdlen.toNat), seq := .emit,
        pending := some (snapshotOf .pre s s.fdlen.toNat) }) ∧
    (crc32 (s.buf.bytes s.fdlen.toNat) ≠ s.fcrc →
      exec i s = .next { s with
        crcreg := crcRegister 0xFFFFFFFF#32 (s.buf.bytes s.fdlen.toNat), errcode := some .checksum,
        status := { s.status with busy := false, done := false, err := true, errstate := .verify }, seq := .idle }))

/-- XF.PAD and the stage Pad of FRM.ONE and FRM.RUN (44_transform.md R192): zero bytes up to the next multiple of 4,
every other byte as it was, FDLEN rounded up, nothing else written but the command's RESULT. -/
def Obligations.PadZeroFillsToAMultipleOfFour : Prop :=
  (∀ w, decode w = .ok .xfPad ↔ w = 0x41000000#32) ∧
  (∀ s : State, s.fdlen.toNat ≤ 252 →
    ∃ t, exec .xfPad s = .next t ∧
      t = { s with
        buf := t.buf, fdlen := BitVec.ofNat 8 (4 * ((s.fdlen.toNat + 3) / 4)),
        result := BitVec.ofNat 32 (4 * ((s.fdlen.toNat + 3) / 4)),
        status := { s.status with busy := false, done := true }, seq := .idle } ∧
      t.fdlen.toNat = 4 * ((s.fdlen.toNat + 3) / 4) ∧
      ∀ a, t.buf.byteAt a =
        if s.fdlen.toNat ≤ a ∧ a < 4 * ((s.fdlen.toNat + 3) / 4) then 0x00#8 else s.buf.byteAt a) ∧
  (∀ (i : Instr) (s : State), (i = .frmOne ∨ i = .frmRun) → s.seq = .pad → s.fdlen.toNat ≤ 252 →
    ∃ t, exec i s = .next t ∧
      t = { s with
        buf := t.buf, fdlen := BitVec.ofNat 8 (4 * ((s.fdlen.toNat + 3) / 4)), seq := .mask, k := 0, acc := 0#32 } ∧
      ∀ a, t.buf.byteAt a =
        if s.fdlen.toNat ≤ a ∧ a < 4 * ((s.fdlen.toNat + 3) / 4) then 0x00#8 else s.buf.byteAt a)

/-- XF.MASK and the stage Mask of FRM.ONE and FRM.RUN (44_transform.md R194, in the byte-lane form of R195): the bytes of
words 1, 3, 5, ... below FDLEN / 4 are ANDed with their lanes of MASK, every other byte is as it was; the command's
RESULT is the number of words visited. -/
def Obligations.MaskAndsEveryOtherWordFromTheSecond : Prop :=
  (∀ w, decode w = .ok .xfMask ↔ w = 0x42000000#32) ∧
  (∀ s : State, s.fdlen.toNat ≤ 252 →
    ∃ t, exec .xfMask s = .next t ∧
      t = { s with
        buf := t.buf, result := BitVec.ofNat 32 (s.fdlen.toNat / 4 / 2),
        status := { s.status with busy := false, done := true }, seq := .idle } ∧
      (∀ j, j % 2 = 1 → j < s.fdlen.toNat / 4 → t.buf.readWord (4 * j) = s.buf.readWord (4 * j) &&& s.mask) ∧
      ∀ a, t.buf.byteAt a =
        if a / 4 % 2 = 1 ∧ a / 4 < s.fdlen.toNat / 4 then
          s.buf.byteAt a &&& s.mask.extractLsb' (24 - 8 * (a % 4)) 8
        else s.buf.byteAt a) ∧
  (∀ (i : Instr) (s : State), (i = .frmOne ∨ i = .frmRun) → s.seq = .mask → s.fdlen.toNat ≤ 252 →
    ∃ t, exec i s = .next t ∧
      t = { s with buf := t.buf, seq := .recomp, k := 0, acc := 0#32 } ∧
      ∀ a, t.buf.byteAt a =
        if a / 4 % 2 = 1 ∧ a / 4 < s.fdlen.toNat / 4 then
          s.buf.byteAt a &&& s.mask.extractLsb' (24 - 8 * (a % 4)) 8
        else s.buf.byteAt a)

/-- XF.RECOMP and the stage Recompute of FRM.ONE and FRM.RUN (44_transform.md R196); the stage goes on to hand over the
POST record. -/
def Obligations.RecomputeStoresTheCrcOfThePayload : Prop :=
  (∀ w, decode w = .ok .xfRecomp ↔ w = 0x43000000#32) ∧
  (∀ s : State, s.fdlen.toNat ≤ 252 →
    exec .xfRecomp s = .next { s with
      crcreg := crcRegister 0xFFFFFFFF#32 (s.buf.bytes s.fdlen.toNat),
      fcrc := crc32 (s.buf.bytes s.fdlen.toNat), result := crc32 (s.buf.bytes s.fdlen.toNat),
      status := { s.status with busy := false, done := true }, seq := .idle }) ∧
  (∀ (i : Instr) (s : State), (i = .frmOne ∨ i = .frmRun) → s.seq = .recomp → s.fdlen.toNat ≤ 252 →
    exec i s = .next { s with
      crcreg := crcRegister 0xFFFFFFFF#32 (s.buf.bytes s.fdlen.toNat),
      fcrc := crc32 (s.buf.bytes s.fdlen.toNat), seq := .emit,
      pending := some { snapshotOf .post s s.fdlen.toNat with crc32 := crc32 (s.buf.bytes s.fdlen.toNat) } }) ∧
  crc32 [] = 0x00000000#32 ∧
  crc32 [0x31#8, 0x32#8, 0x33#8, 0x34#8, 0x05#8, 0x00#8, 0x00#8, 0x00#8] = 0xF228A386#32 ∧
  crcRegister 0xFFFFFFFF#32 [0x31#8, 0x32#8, 0x33#8, 0x34#8, 0x05#8, 0x00#8, 0x00#8, 0x00#8] = 0x9E3AEBB0#32

/-- Pad and Mask are idempotent: a second XF.PAD or XF.MASK changes no byte of BUF and not FDLEN; and XF.PAD does not
change the CRC of a payload whose length is a multiple of 4 (44_transform.md, sections 2 and 3). -/
def Obligations.PadAndMaskAreIdempotent : Prop :=
  (∀ s t : State, s.fdlen.toNat ≤ 252 → exec .xfPad s = .next t →
    t.fdlen.toNat % 4 = 0 ∧
    (∃ u, exec .xfPad t = .next u ∧ u.fdlen = t.fdlen ∧ u.result = t.result ∧
      ∀ a, u.buf.byteAt a = t.buf.byteAt a) ∧
    (s.fdlen.toNat % 4 = 0 → t.fdlen = s.fdlen ∧
      crc32 (t.buf.bytes t.fdlen.toNat) = crc32 (s.buf.bytes s.fdlen.toNat))) ∧
  (∀ s t : State, s.fdlen.toNat ≤ 252 → exec .xfMask s = .next t →
    ∃ u, exec .xfMask t = .next u ∧ u.fdlen = t.fdlen ∧ u.result = t.result ∧
      ∀ a, u.buf.byteAt a = t.buf.byteAt a)

/-- After Recompute, FCRC is the CRC of the payload, and an XF.VERIFY with no change to BUF[0..FDLEN), FDLEN or FCRC in
between finishes without error (44_transform.md R197). -/
def Obligations.VerifyPassesAfterRecompute : Prop :=
  ∀ s t u : State, s.fdlen.toNat ≤ 252 → exec .xfRecomp s = .next t →
    t.fcrc = crc32 (t.buf.bytes t.fdlen.toNat) ∧
    (u.fdlen = t.fdlen → u.fcrc = t.fcrc → (∀ a, a < t.fdlen.toNat → u.buf.byteAt a = t.buf.byteAt a) →
      ∃ v, exec .xfVerify u = .next v ∧ v.status.done = true ∧ v.status.err = u.status.err ∧ v.errcode = u.errcode ∧
        v.result = u.fcrc)

/-! ## Pipeline driver -/

/-- The block step in EMIT of FRM.ONE and FRM.RUN: while the sink does not accept, nothing changes; when it does, the
record is delivered, and after PRE comes Pad, after POST the frame is counted, FRM.ONE finishes with RESULT the frames it
completed and FRM.RUN expects the next header (45_pipeline.md, sections 1 and 2). -/
def Obligations.EmitWaitsForTheSinkThenGoesOn : Prop :=
  ∀ (i : Instr) (s : State) (p : Snapshot), (i = .frmOne ∨ i = .frmRun) → s.seq = .emit → s.pending = some p →
    (s.sinkReady = false → exec i s = .next s) ∧
    (s.sinkReady = true → p.kind = .pre → exec i s = .next { s with
      pending := none, delivered := s.delivered ++ [p], seq := .pad, k := 0, acc := 0#32 }) ∧
    (s.sinkReady = true → p.kind = .post → i = .frmOne → exec i s = .next { s with
      pending := none, delivered := s.delivered ++ [p], nf := s.nf + 1#32, frames := s.frames + 1#32,
      result := s.nf + 1#32, status := { s.status with busy := false, done := true }, seq := .idle }) ∧
    (s.sinkReady = true → p.kind = .post → i = .frmRun → exec i s = .next { s with
      pending := none, delivered := s.delivered ++ [p], nf := s.nf + 1#32, frames := s.frames + 1#32,
      seq := .hdr, k := 0, acc := 0#32 })

/-- FRM.ONE on a frame unit with the right checksum and a sink that accepts: it takes exactly the unit's bytes, one block
step each, and 6 more (four stages, two records), delivers PRE and POST, and leaves the transformed frame; every byte of
BUF beyond the padded payload and every other register is as it was, but the working registers (45_pipeline.md, sections
1 and 2; 70_reset_and_hazards.md, section 4). -/
def Obligations.FrmOneTransformsOneFrame : Prop :=
  ∀ (s : State) (u : FrameUnit) (cs rest : List Byte),
    s.seq = .exec → s.status.busy = true → s.cur = encode .frmOne → s.sinkReady = true →
    isUnitText u cs → s.input.ahead = cs ++ rest →
    cs.length = 2 * (u.data.length + 4) + 22 ∧
    ∃ t0 t, exec .frmOne s = .next t0 ∧ blockRun (cs.length + 6) t0 = .next t ∧
      t = { s with
        buf := t.buf, k := t.k, acc := t.acc, hi := t.hi, wi := t.wi, nf := 1#32, pending := none, ftype := u.type,
        fplen := BitVec.ofNat 8 (u.data.length + 4), fdlen := BitVec.ofNat 8 (roundup4 u.data.length),
        fcrc := crc32 u.postData, crcreg := crcRegister 0xFFFFFFFF#32 u.postData, mask := u.mask, result := 1#32,
        frames := s.frames + 1#32, delivered := s.delivered ++ [u.preRecord, u.postRecord],
        incnt := s.incnt + BitVec.ofNat 32 cs.length,
        input := { s.input with ahead := rest, pos := s.input.pos + cs.length },
        status := { s.status with busy := false, done := true }, seq := .idle } ∧
      ∀ a, t.buf.byteAt a = (u.postData[a]?).getD (s.buf.byteAt a)

/-- FRM.RUN on a stream of units with right checksums that then ends, with a sink that accepts: it delivers PRE and POST
of each frame in stream order, counts them in FRAMES and RESULT modulo 2^32, takes every byte, and finishes with EOSF and
without an error (45_pipeline.md, section 2). -/
def Obligations.FrmRunTransformsEveryFrameOfTheStream : Prop :=
  ∀ (s : State) (us : List FrameUnit) (cs : List Byte),
    s.seq = .exec → s.status.busy = true → s.cur = encode .frmRun → s.sinkReady = true →
    areUnitTexts us cs → s.input.ahead = cs → s.input.ended = true →
    ∃ t0 t n, exec .frmRun s = .next t0 ∧ blockRun n t0 = .next t ∧
      t.status = { s.status with busy := false, done := true, eosf := true } ∧ t.errcode = s.errcode ∧ t.seq = .idle ∧
      t.result = BitVec.ofNat 32 us.length ∧ t.frames = s.frames + BitVec.ofNat 32 us.length ∧
      t.delivered = s.delivered ++ us.flatMap (fun u => [u.preRecord, u.postRecord]) ∧
      t.incnt = s.incnt + BitVec.ofNat 32 cs.length ∧
      t.input = { ahead := [], ended := true, pos := s.input.pos + cs.length }

/-- No rule of the pipeline reads a register or a BUF byte of an earlier frame before writing it: two runs of FRM.RUN
that begin with different BUF contents and different frame registers, CRCREG and RESULT make the same progress and
deliver the same records (45_pipeline.md, section 3). -/
def Obligations.FrmRunDoesNotDependOnEarlierFrames : Prop :=
  ∀ (s : State) (buf : Memory) (ftype fplen fdlen : Byte) (fcrc mask crcreg result : Word) (n : Nat),
    s.status.busy = true → s.cur = encode .frmRun → s.seq = .hdr → s.k = 0 →
    ∃ t u, blockRun n s = .next t ∧
      blockRun n { s with buf := buf, ftype := ftype, fplen := fplen, fdlen := fdlen, fcrc := fcrc, mask := mask,
                          crcreg := crcreg, result := result } = .next u ∧
      t.delivered = u.delivered ∧ t.status = u.status ∧ t.errcode = u.errcode ∧ t.frames = u.frames ∧
      t.incnt = u.incnt ∧ t.input = u.input ∧ t.seq = u.seq

/-! ## Errors -/

/-- Every error is entered alike, and only the kinds and states of 60_exceptions.md R240 occur: BUSY and DONE are 0, ERR
is 1, the sequencer is idle, and no record is delivered in that step (60_exceptions.md, sections 1 and 2). -/
def Obligations.ErrorEntryLatchesAKindAndAState : Prop :=
  ∀ s t : State, s.Inv → step s = .next t → s.status.err = false → t.status.err = true →
    t.status.busy = false ∧ t.status.done = false ∧ t.seq = .idle ∧ t.delivered = s.delivered ∧ t.frames = s.frames ∧
    ∃ e, t.errcode = some e ∧ (e, t.status.errstate) ∈
      [(ErrKind.frameFormat, SeqState.hdr), (.frameFormat, .len), (.frameFormat, .mhdr), (.conversion, .exec),
       (.conversion, .type), (.conversion, .len), (.conversion, .cksum), (.conversion, .mval), (.conversion, .payload),
       (.conversion, .hexstr), (.unexpectedLength, .payload), (.unexpectedLength, .hexstr), (.checksum, .verify),
       (.invalidLength, .exec), (.bufferTooSmall, .exec), (.illegalCommand, .exec)]

/-- A latched error is not overwritten: while it stays latched, ERRCODE and ERRSTATE keep their values; and it ends only
by CLEAR, SRESET or `rst`, after which ERRCODE and ERRSTATE are 0 (60_exceptions.md, section 3). -/
def Obligations.LatchedErrorIsNotOverwritten : Prop :=
  ∀ s t : State, s.Inv → step s = .next t → s.status.err = true →
    (t.status.err = true → t.errcode = s.errcode ∧ t.status.errstate = s.status.errstate) ∧
    (t.status.err = false → t.errcode = none ∧ t.status.errstate = .idle ∧
      ((∃ rest, s.env = .write 0x00#8 0x01000000#32 :: rest) ∨ (∃ rest, s.env = .write 0x00#8 0x02000000#32 :: rest) ∨
       (∃ level rest, s.env = .rst level :: rest)))

/-! ## Host accesses and reset -/

/-- A host write while BUSY = 0 and `rst` is released stores as the register map says: the read-write registers take
their bits, FDLEN only a legal length, a BUFW window its four bytes big-endian and no other, and every read-only or
reserved index nothing (10_state.md, section 2). -/
def Obligations.HostWritesStoreAsTheRegisterMapSays : Prop :=
  ∀ (s : State) (index : Byte) (v : Word) (rest : List EnvAct),
    s.env = .write index v :: rest → s.status.busy = false → s.rst = false →
    (index = 0x04#8 → step s = .next { s with env := rest, crcreg := v }) ∧
    (index = 0x05#8 → step s = .next { s with env := rest, ftype := v.extractLsb' 0 8 }) ∧
    (index = 0x06#8 → step s = .next { s with env := rest, fplen := v.extractLsb' 0 8 }) ∧
    (index = 0x07#8 → (v.extractLsb' 0 8).toNat ≤ 252 →
      step s = .next { s with env := rest, fdlen := v.extractLsb' 0 8 }) ∧
    (index = 0x07#8 → 252 < (v.extractLsb' 0 8).toNat → step s = .next { s with env := rest }) ∧
    (index = 0x08#8 → step s = .next { s with env := rest, fcrc := v }) ∧
    (index = 0x09#8 → step s = .next { s with env := rest, mask := v }) ∧
    (0x40 ≤ index.toNat → index.toNat ≤ 0x7E →
      ∃ t, step s = .next t ∧ t = { s with env := rest, buf := t.buf } ∧
        ∀ a, t.buf.byteAt a =
          if a / 4 = index.toNat - 0x40 then v.extractLsb' (24 - 8 * (a % 4)) 8 else s.buf.byteAt a) ∧
    ((1 ≤ index.toNat ∧ index.toNat ≤ 3) ∨ (0x0A ≤ index.toNat ∧ index.toNat ≤ 0x3F) ∨ 0x7F ≤ index.toNat →
      step s = .next { s with env := rest })

/-- A host read while BUSY = 0 returns the register of the map, unused bits 0, and changes nothing but the host's own
record of it (10_state.md, section 2; 20_memory.md, section 3). -/
def Obligations.HostReadsReturnTheRegisterMap : Prop :=
  ∀ (s : State) (index : Byte) (rest : List EnvAct),
    s.env = .read index :: rest → s.status.busy = false →
    ∃ v, step s = .next { s with env := rest, reads := { index := index, value := v } :: s.reads } ∧
      (index = 0x00#8 → v = 0#32) ∧ (index = 0x01#8 → v = s.status.word) ∧
      (index = 0x02#8 → v = match s.errcode with | none => 0#32 | some e => 0#28 ++ e.code) ∧
      (index = 0x03#8 → v = s.result) ∧ (index = 0x04#8 → v = s.crcreg) ∧ (index = 0x05#8 → v = 0#24 ++ s.ftype) ∧
      (index = 0x06#8 → v = 0#24 ++ s.fplen) ∧ (index = 0x07#8 → v = 0#24 ++ s.fdlen) ∧
      (index = 0x08#8 → v = s.fcrc) ∧ (index = 0x09#8 → v = s.mask) ∧ (index = 0x0A#8 → v = s.frames) ∧
      (index = 0x0B#8 → v = s.incnt) ∧
      (0x40 ≤ index.toNat → index.toNat ≤ 0x7E →
        v = s.buf.byteAt (4 * (index.toNat - 0x40)) ++ s.buf.byteAt (4 * (index.toNat - 0x40) + 1) ++
            s.buf.byteAt (4 * (index.toNat - 0x40) + 2) ++ s.buf.byteAt (4 * (index.toNat - 0x40) + 3)) ∧
      ((0x0C ≤ index.toNat ∧ index.toNat ≤ 0x3F) ∨ 0x7F ≤ index.toNat → v = 0#32)

/-- While BUSY = 1 a write of any index but CMD is ignored, a read of STATUS is exact, and a read of any other index
returns a free value and changes no register (20_memory.md, section 3). The free value is notes/assumptions/6.md's. -/
def Obligations.AccessesWhileBusyChangeNothing : Prop :=
  ∀ (s : State) (index : Byte) (v : Word) (rest : List EnvAct), s.status.busy = true →
    (index ≠ 0x00#8 → s.env = .write index v :: rest → step s = .next { s with env := rest }) ∧
    (s.env = .read 0x01#8 :: rest →
      step s = .next { s with env := rest, reads := { index := 0x01#8, value := s.status.word } :: s.reads }) ∧
    (index ≠ 0x01#8 → s.env = .read index :: rest →
      step s = .next { s with
        env := rest, draws := s.draws + 1,
        reads := { index := index, value := Config.busyRead s.draws } :: s.reads })

/-- STATUS as the host reads it has its fields at their bits and 0 elsewhere (10_state.md R23's layout). -/
def Obligations.StatusWordHasItsFieldsInPlace : Prop :=
  ∀ f : Status,
    f.word.getLsbD 0 = f.busy ∧ f.word.getLsbD 1 = f.done ∧ f.word.getLsbD 2 = f.err ∧ f.word.getLsbD 3 = f.eosf ∧
    f.word.getLsbD 4 = f.ovr ∧ f.word.extractLsb' 5 3 = 0#3 ∧ f.word.extractLsb' 8 4 = f.errstate.code ∧
    f.word.extractLsb' 12 20 = 0#20

/-- `rst` asserted or released resets every register and the sequencer, abandons a command and a waiting record, and
leaves BUF and the ports; while it is asserted a CMD write is ignored without setting OVR, and reads of registers return
their reset values (70_reset_and_hazards.md, section 1). That driving `rst` again to the level it has also resets is the
model's choice, notes/assumptions/20.md. -/
def Obligations.RstResetsTheBlockAndHoldsIt : Prop :=
  (∀ (s : State) (level : Bool) (rest : List EnvAct), s.env = .rst level :: rest →
    step s = .next { s with
      env := rest, rst := level,
      status := { busy := false, done := false, err := false, eosf := false, ovr := false, errstate := .idle },
      errcode := none, result := 0#32, crcreg := 0xFFFFFFFF#32, ftype := 0#8, fplen := 0#8, fdlen := 0#8,
      fcrc := 0#32, mask := 0#32, frames := 0#32, incnt := 0#32, seq := .idle, pending := none }) ∧
  (∀ (s : State) (w : Word) (rest : List EnvAct), s.rst = true → s.env = .write 0x00#8 w :: rest →
    step s = .next { s with env := rest }) ∧
  (∀ (s : State) (index : Byte) (rest : List EnvAct), s.Inv → s.rst = true → s.env = .read index :: rest →
    index.toNat < 0x40 ∨ 0x7E < index.toNat →
    step s = .next { s with
      env := rest,
      reads := { index := index, value := if index = 0x04#8 then 0xFFFFFFFF#32 else 0#32 } :: s.reads })

/-- SRESET has the same effect on the state as one `rst` pulse; both clear FRAMES, INCNT, OVR and CRCREG, and neither
writes BUF (70_reset_and_hazards.md R271). -/
def Obligations.SresetHasTheEffectOfARstPulse : Prop :=
  ∀ (s : State) (rest : List EnvAct), s.rst = false →
    ∃ t, step { s with env := .write 0x00#8 0x02000000#32 :: rest } = .next t ∧
      Host.Core.run Sys2Proof.core 2 { s with env := .rst true :: .rst false :: rest } = .next t ∧
      t.frames = 0#32 ∧ t.incnt = 0#32 ∧ t.status.ovr = false ∧ t.crcreg = 0xFFFFFFFF#32 ∧ t.buf = s.buf

/-- The state after reset, the values the spec gives (10_state.md, section 6), and that BUF then holds no written
byte, so that each of its bytes is a free value (notes/assumptions/3.md). -/
def Obligations.ResetLeavesTheValuesOfTheTable : Prop :=
  State.reset.status.word = 0x00000000#32 ∧ State.reset.errcode = none ∧ State.reset.result = 0#32 ∧
  State.reset.crcreg = 0xFFFFFFFF#32 ∧ State.reset.ftype = 0#8 ∧ State.reset.fplen = 0#8 ∧ State.reset.fdlen = 0#8 ∧
  State.reset.fcrc = 0#32 ∧ State.reset.mask = 0#32 ∧ State.reset.frames = 0#32 ∧ State.reset.incnt = 0#32 ∧
  State.reset.seq = .idle ∧ State.reset.pending = none ∧
  ∀ a, State.reset.buf.byteAt a = Config.powerOnByte a

/-! ## Invariants of every step -/

/-- Every step keeps the invariant: BUF's canonical form, FDLEN at most 252, flags that fit together, a sequencer that
stands where a legal command can stand, and registers held while `rst` is asserted (10_state.md, sections 2 to 4). -/
def Obligations.EveryStepKeepsTheInvariant : Prop := ∀ s t : State, s.Inv → step s = .next t → t.Inv

/-- From a state of the invariant no step faults or refuses: whatever the host and the stream do, the block answers with
a next state (60_exceptions.md, section 1; 30_encoding.md, section 2). -/
def Obligations.NoStepStopsFromTheInvariant : Prop := ∀ s : State, s.Inv → safeStep s

/-- The state after reset is one of both invariants, whatever the environment is about to do. -/
def Obligations.ResetStateIsOfTheInvariants : Prop :=
  ∀ env : List EnvAct, { State.reset with env := env }.Inv ∧ { State.reset with env := env }.SnapshotInv

/-- Every step keeps the invariants of the snapshot points: every record delivered or waiting has the CRC of its own
data, PRE the decoded length, POST the padded length (45_pipeline.md, section 3). -/
def Obligations.EveryStepKeepsSnapshotsSound : Prop := ∀ s t : State, s.SnapshotInv → step s = .next t → t.SnapshotInv

/-- No block step moves the sequencer back within a frame; FRM.RUN's return to the next header, from EMIT with the POST
record that ends a frame, is the only backward move (10_state.md, section 6). -/
def Obligations.SequencerNeverGoesBackWithinAFrame : Prop :=
  ∀ s t : State, s.Inv → blockStep s = .next t → s.status.busy = true → t.status.busy = true →
    stageRank s ≤ stageRank t ∨
      (decode s.cur = .ok .frmRun ∧ s.seq = .emit ∧ s.pending.map Snapshot.kind = some .post ∧ t.seq = .hdr)

/-- A block step takes at most one byte of the stream, the next one, INCNT counts it, and between commands it takes
none (10_state.md, sections 2 and 5). -/
def Obligations.BlockStepsTakeAtMostOneByte : Prop :=
  ∀ s t : State, blockStep s = .next t → s.Inv →
    (s.status.busy = false → t = s) ∧
    ((t.input = s.input ∧ t.incnt = s.incnt) ∨
     ∃ b rest, s.input.ahead = b :: rest ∧ t.input = { s.input with ahead := rest, pos := s.input.pos + 1 } ∧
       t.incnt = s.incnt + 1#32)

/-- A block step writes a frame register only in its own stage, BUF only in the payload, HEX.DSTR, Pad and Mask stages,
CRCREG only in Verify and Recompute, and RESULT only in the step that ends a command (43_frame_decoder.md, section 1;
44_transform.md; 10_state.md, section 2). -/
def Obligations.RegistersAreWrittenOnlyInTheirStages : Prop :=
  ∀ s t : State, s.Inv → blockStep s = .next t →
    (t.ftype ≠ s.ftype → s.seq = .type) ∧ (t.fplen ≠ s.fplen → s.seq = .len) ∧
    (t.fdlen ≠ s.fdlen → s.seq = .len ∨ s.seq = .pad) ∧ (t.fcrc ≠ s.fcrc → s.seq = .cksum ∨ s.seq = .recomp) ∧
    (t.mask ≠ s.mask → s.seq = .mval) ∧ (t.crcreg ≠ s.crcreg → s.seq = .verify ∨ s.seq = .recomp) ∧
    (t.buf ≠ s.buf → s.seq = .payload ∨ s.seq = .hexstr ∨ s.seq = .pad ∨ s.seq = .mask) ∧
    (t.result ≠ s.result → t.status.busy = false ∧ t.status.done = true) ∧
    t.cur = s.cur ∧ t.env = s.env ∧ t.rst = s.rst ∧ t.draws = s.draws ∧ t.reads = s.reads ∧ t.sinkReady = s.sinkReady

/-- FRAMES counts exactly the POST records the sink accepts, modulo 2^32, and only a reset clears it
(10_state.md, section 2; 45_pipeline.md, section 1). -/
def Obligations.FramesCountsAcceptedPostRecords : Prop :=
  ∀ s t : State, s.Inv → step s = .next t →
    (t.frames = s.frames ∧ (t.delivered = s.delivered ∨ ∃ p, p.kind = .pre ∧ t.delivered = s.delivered ++ [p])) ∨
    (t.frames = s.frames + 1#32 ∧ ∃ p, p.kind = .post ∧ t.delivered = s.delivered ++ [p]) ∨
    (t.frames = 0#32 ∧ t.delivered = s.delivered ∧
      ((∃ rest, s.env = .write 0x00#8 0x02000000#32 :: rest) ∨ (∃ level rest, s.env = .rst level :: rest) ∨ s.rst = true))

/-- Once end-of-input stands at the front of the stream, it stays there until the environment connects a new stream
(10_state.md, section 5). That bytes offered after end-of-input are no part of the stream is the model's reading,
notes/assumptions/17.md. -/
def Obligations.EndOfInputIsPermanentUntilANewStream : Prop :=
  ∀ s t : State, s.Inv → step s = .next t → s.input.ahead = [] → s.input.ended = true →
    (∀ rest, s.env ≠ .connect :: rest) → t.input = s.input

/-- A command ends when the environment cooperates: from any state of the invariant with a stream that has ended and a
sink that accepts, the block is idle again after at most twice as many steps as bytes are left, and 8
(70_reset_and_hazards.md, section 4; 45_pipeline.md, section 3). The bound is derived, no rule states it. -/
def Obligations.CommandsEndWhenThePortsCooperate : Prop :=
  ∀ s : State, s.Inv → s.input.ended = true → s.sinkReady = true →
    ∃ n t, n ≤ 2 * s.input.ahead.length + 8 ∧ blockRun n s = .next t ∧ t.status.busy = false
end

