-- ==== Sys2Proof/Laws/Memory.lean ====
section
/-!
SUPPORT. The laws of BUF: a read after a write, what a write leaves alone, and that every operation keeps the canonical
form.
-/

namespace Sys2Proof.Machine

/-! ## Reads after writes -/

theorem Memory.read?_write (m : Memory) (a x : Nat) (b : Byte) :
    (m.write a b).read? x = if x = a then some b else m.read? x := by
  induction m with
  | nil =>
    simp only [Memory.write, Memory.read?]
    by_cases h : x = a
    · rw [if_pos h, if_pos h.symm]
    · rw [if_neg h, if_neg (fun e => h e.symm)]
  | cons c rest ih =>
    by_cases h : x = a
    · subst h
      simp only [Memory.write]
      split
      · simp [Memory.read?]
      · split
        · simp [Memory.read?]
        · rename_i h2
          simp only [Memory.read?, ih, if_true]
          rw [if_neg (fun e => h2 e.symm)]
    · have h' : ¬a = x := fun e => h e.symm
      simp only [Memory.write]
      rw [if_neg h]
      split
      · simp only [Memory.read?, if_neg h']
      · split
        · rename_i h2
          have : ¬c.1 = x := by omega
          simp only [Memory.read?, if_neg h', if_neg this]
        · simp only [Memory.read?, ih, if_neg h]

/-- What BUF holds after one byte is written. -/
theorem Memory.byteAt_write (m : Memory) (a x : Nat) (b : Byte) :
    (m.write a b).byteAt x = if x = a then b else m.byteAt x := by
  simp only [Memory.byteAt, Memory.read?_write]
  by_cases h : x = a
  · simp only [if_pos h]
  · simp only [if_neg h]

@[simp] theorem Memory.byteAt_write_same (m : Memory) (a : Nat) (b : Byte) : (m.write a b).byteAt a = b := by
  simp [Memory.byteAt_write]

theorem Memory.byteAt_write_other (m : Memory) {a x : Nat} (b : Byte) (h : x ≠ a) :
    (m.write a b).byteAt x = m.byteAt x := by
  simp [Memory.byteAt_write, h]

/-- What BUF holds after a zero fill. -/
theorem Memory.byteAt_zeroFill (m : Memory) (a n x : Nat) :
    (m.zeroFill a n).byteAt x = if a ≤ x ∧ x < a + n then 0#8 else m.byteAt x := by
  induction n generalizing m a with
  | zero => rw [if_neg (by omega)]; rfl
  | succ n ih =>
    simp only [Memory.zeroFill, ih, Memory.byteAt_write]
    split <;> split <;> (try split) <;> first | rfl | omega

/-- What BUF holds after a big-endian word is written at `4 * j`. -/
theorem Memory.byteAt_writeWord (m : Memory) (j x : Nat) (v : Word) :
    (m.writeWord (4 * j) v).byteAt x =
      if x / 4 = j then v.extractLsb' (24 - 8 * (x % 4)) 8 else m.byteAt x := by
  simp only [Memory.writeWord, Memory.byteAt_write]
  by_cases h : x / 4 = j
  · rw [if_pos h]
    have : x = 4 * j ∨ x = 4 * j + 1 ∨ x = 4 * j + 2 ∨ x = 4 * j + 3 := by omega
    rcases this with h0 | h0 | h0 | h0 <;> subst h0 <;> simp
  · rw [if_neg h, if_neg (by omega), if_neg (by omega), if_neg (by omega), if_neg (by omega)]

/-- A word read back at its own place. -/
theorem Memory.readWord_writeWord_same (m : Memory) (j : Nat) (v : Word) :
    (m.writeWord (4 * j) v).readWord (4 * j) = v := by
  have h1 : (4 * j + 1) / 4 = j := by omega
  have h2 : (4 * j + 2) / 4 = j := by omega
  have h3 : (4 * j + 3) / 4 = j := by omega
  have m1 : (4 * j + 1) % 4 = 1 := by omega
  have m2 : (4 * j + 2) % 4 = 2 := by omega
  have m3 : (4 * j + 3) % 4 = 3 := by omega
  simp only [Memory.readWord, Memory.byteAt_writeWord, h1, h2, h3, m1, m2, m3, if_true, Nat.mul_mod_right,
    Nat.mul_div_cancel_left j (show 0 < 4 by omega)]
  ext i hi
  simp only [BitVec.getElem_append, BitVec.getElem_extractLsb']
  split <;> (try split) <;> (try split) <;> rw [← BitVec.getLsbD_eq_getElem] <;> congr 1 <;> omega

/-- The bytes of BUF depend only on what it holds there. -/
theorem Memory.bytes_congr {m m' : Memory} {n : Nat} (h : ∀ a, a < n → m.byteAt a = m'.byteAt a) :
    m.bytes n = m'.bytes n := by
  simp only [Memory.bytes]
  exact List.map_congr_left fun a ha => h a (List.mem_range.mp ha)

@[simp] theorem Memory.length_bytes (m : Memory) (n : Nat) : (m.bytes n).length = n := by simp [Memory.bytes]

theorem Memory.getElem?_bytes (m : Memory) (n a : Nat) :
    (m.bytes n)[a]? = if a < n then some (m.byteAt a) else none := by
  simp only [Memory.bytes, List.getElem?_map]
  split
  · rename_i h; rw [List.getElem?_range h]; rfl
  · rename_i h; rw [List.getElem?_eq_none (by simp; omega)]; rfl

/-! ## The canonical form -/

theorem Memory.mem_write {m : Memory} {a : Nat} {b : Byte} {c : Host.Cell} (h : c ∈ m.write a b) :
    c = (a, b) ∨ c ∈ m := by
  induction m with
  | nil => simpa [Memory.write] using h
  | cons d rest ih =>
    simp only [Memory.write] at h
    split at h
    · simpa using h
    · split at h
      · simp only [List.mem_cons] at h ⊢; tauto
      · simp only [List.mem_cons] at h ⊢; rcases h with h | h
        · tauto
        · have := ih h; tauto

/-- A write inside BUF keeps the canonical form. -/
theorem Memory.wf_write {m : Memory} (h : m.wf) {a : Nat} (ha : a < Config.bufSize) (b : Byte) :
    (m.write a b).wf := by
  obtain ⟨hs, hb⟩ := h
  refine ⟨?_, fun c hc => ?_⟩
  · clear hb ha
    induction m with
    | nil => simp [Memory.write]
    | cons d rest ih =>
      rw [List.pairwise_cons] at hs
      simp only [Memory.write]
      split
      · rename_i hlt
        refine List.pairwise_cons.mpr ⟨fun c hc => ?_, List.pairwise_cons.mpr hs⟩
        rcases List.mem_cons.mp hc with rfl | hc
        · exact hlt
        · exact lt_trans hlt (hs.1 c hc)
      · split
        · rename_i heq
          exact List.pairwise_cons.mpr ⟨fun c hc => by have := hs.1 c hc; simp only; omega, hs.2⟩
        · refine List.pairwise_cons.mpr ⟨fun c hc => ?_, ih hs.2⟩
          rcases Memory.mem_write hc with rfl | hc
          · simp only; omega
          · exact hs.1 c hc
  · rcases Memory.mem_write hc with rfl | hc
    · exact ha
    · exact hb c hc

theorem Memory.wf_zeroFill {m : Memory} (h : m.wf) {a n : Nat} (ha : a + n ≤ Config.bufSize) :
    (m.zeroFill a n).wf := by
  induction n generalizing m a with
  | zero => exact h
  | succ n ih => exact ih (Memory.wf_write h (by omega) _) (by omega)

theorem Memory.wf_writeWord {m : Memory} (h : m.wf) {a : Nat} (ha : a + 4 ≤ Config.bufSize) (v : Word) :
    (m.writeWord a v).wf :=
  Memory.wf_write (Memory.wf_write (Memory.wf_write (Memory.wf_write h (by omega) _) (by omega) _) (by omega) _)
    (by omega) _

theorem Memory.wf_foldl_maskWord {mask : Word} {js : List Nat} {m : Memory} (h : m.wf)
    (hj : ∀ j ∈ js, 4 * j + 4 ≤ Config.bufSize) : (js.foldl (maskWord mask) m).wf := by
  induction js generalizing m with
  | nil => exact h
  | cons j js ih =>
    exact ih (Memory.wf_writeWord h (hj j (by simp)) _) fun i hi => hj i (by simp [hi])

theorem mem_maskedWords {nw j : Nat} : j ∈ maskedWords nw ↔ j % 2 = 1 ∧ j < nw := by
  simp only [maskedWords, List.mem_map, List.mem_range]
  constructor
  · rintro ⟨i, hi, rfl⟩; omega
  · rintro ⟨h1, h2⟩; exact ⟨j / 2, by omega, by omega⟩

end Sys2Proof.Machine
end

