-- ==== Sys2Proof/Laws/State.lean ====
section
/-!
SUPPORT. One lemma per field for each named update of the state, and for each change of the flags, all true by rfl.
-/

namespace Sys2Proof.Machine

/-! ## finish -/

@[simp] theorem finish_status (s : State) : (finish s).status = s.status.finished := rfl
@[simp] theorem finish_errcode (s : State) : (finish s).errcode = s.errcode := rfl
@[simp] theorem finish_result (s : State) : (finish s).result = s.result := rfl
@[simp] theorem finish_crcreg (s : State) : (finish s).crcreg = s.crcreg := rfl
@[simp] theorem finish_ftype (s : State) : (finish s).ftype = s.ftype := rfl
@[simp] theorem finish_fplen (s : State) : (finish s).fplen = s.fplen := rfl
@[simp] theorem finish_fdlen (s : State) : (finish s).fdlen = s.fdlen := rfl
@[simp] theorem finish_fcrc (s : State) : (finish s).fcrc = s.fcrc := rfl
@[simp] theorem finish_mask (s : State) : (finish s).mask = s.mask := rfl
@[simp] theorem finish_frames (s : State) : (finish s).frames = s.frames := rfl
@[simp] theorem finish_incnt (s : State) : (finish s).incnt = s.incnt := rfl
@[simp] theorem finish_buf (s : State) : (finish s).buf = s.buf := rfl
@[simp] theorem finish_seq (s : State) : (finish s).seq = .idle := rfl
@[simp] theorem finish_cur (s : State) : (finish s).cur = s.cur := rfl
@[simp] theorem finish_k (s : State) : (finish s).k = s.k := rfl
@[simp] theorem finish_acc (s : State) : (finish s).acc = s.acc := rfl
@[simp] theorem finish_hi (s : State) : (finish s).hi = s.hi := rfl
@[simp] theorem finish_wi (s : State) : (finish s).wi = s.wi := rfl
@[simp] theorem finish_nf (s : State) : (finish s).nf = s.nf := rfl
@[simp] theorem finish_input (s : State) : (finish s).input = s.input := rfl
@[simp] theorem finish_pending (s : State) : (finish s).pending = s.pending := rfl
@[simp] theorem finish_sinkReady (s : State) : (finish s).sinkReady = s.sinkReady := rfl
@[simp] theorem finish_delivered (s : State) : (finish s).delivered = s.delivered := rfl
@[simp] theorem finish_rst (s : State) : (finish s).rst = s.rst := rfl
@[simp] theorem finish_env (s : State) : (finish s).env = s.env := rfl
@[simp] theorem finish_draws (s : State) : (finish s).draws = s.draws := rfl
@[simp] theorem finish_reads (s : State) : (finish s).reads = s.reads := rfl

/-! ## raiseError -/

@[simp] theorem raiseError_status (e : ErrKind) (st : SeqState) (s : State) : (raiseError e st s).status = s.status.errored st := rfl
@[simp] theorem raiseError_errcode (e : ErrKind) (st : SeqState) (s : State) : (raiseError e st s).errcode = some e := rfl
@[simp] theorem raiseError_result (e : ErrKind) (st : SeqState) (s : State) : (raiseError e st s).result = s.result := rfl
@[simp] theorem raiseError_crcreg (e : ErrKind) (st : SeqState) (s : State) : (raiseError e st s).crcreg = s.crcreg := rfl
@[simp] theorem raiseError_ftype (e : ErrKind) (st : SeqState) (s : State) : (raiseError e st s).ftype = s.ftype := rfl
@[simp] theorem raiseError_fplen (e : ErrKind) (st : SeqState) (s : State) : (raiseError e st s).fplen = s.fplen := rfl
@[simp] theorem raiseError_fdlen (e : ErrKind) (st : SeqState) (s : State) : (raiseError e st s).fdlen = s.fdlen := rfl
@[simp] theorem raiseError_fcrc (e : ErrKind) (st : SeqState) (s : State) : (raiseError e st s).fcrc = s.fcrc := rfl
@[simp] theorem raiseError_mask (e : ErrKind) (st : SeqState) (s : State) : (raiseError e st s).mask = s.mask := rfl
@[simp] theorem raiseError_frames (e : ErrKind) (st : SeqState) (s : State) : (raiseError e st s).frames = s.frames := rfl
@[simp] theorem raiseError_incnt (e : ErrKind) (st : SeqState) (s : State) : (raiseError e st s).incnt = s.incnt := rfl
@[simp] theorem raiseError_buf (e : ErrKind) (st : SeqState) (s : State) : (raiseError e st s).buf = s.buf := rfl
@[simp] theorem raiseError_seq (e : ErrKind) (st : SeqState) (s : State) : (raiseError e st s).seq = .idle := rfl
@[simp] theorem raiseError_cur (e : ErrKind) (st : SeqState) (s : State) : (raiseError e st s).cur = s.cur := rfl
@[simp] theorem raiseError_k (e : ErrKind) (st : SeqState) (s : State) : (raiseError e st s).k = s.k := rfl
@[simp] theorem raiseError_acc (e : ErrKind) (st : SeqState) (s : State) : (raiseError e st s).acc = s.acc := rfl
@[simp] theorem raiseError_hi (e : ErrKind) (st : SeqState) (s : State) : (raiseError e st s).hi = s.hi := rfl
@[simp] theorem raiseError_wi (e : ErrKind) (st : SeqState) (s : State) : (raiseError e st s).wi = s.wi := rfl
@[simp] theorem raiseError_nf (e : ErrKind) (st : SeqState) (s : State) : (raiseError e st s).nf = s.nf := rfl
@[simp] theorem raiseError_input (e : ErrKind) (st : SeqState) (s : State) : (raiseError e st s).input = s.input := rfl
@[simp] theorem raiseError_pending (e : ErrKind) (st : SeqState) (s : State) : (raiseError e st s).pending = s.pending := rfl
@[simp] theorem raiseError_sinkReady (e : ErrKind) (st : SeqState) (s : State) : (raiseError e st s).sinkReady = s.sinkReady := rfl
@[simp] theorem raiseError_delivered (e : ErrKind) (st : SeqState) (s : State) : (raiseError e st s).delivered = s.delivered := rfl
@[simp] theorem raiseError_rst (e : ErrKind) (st : SeqState) (s : State) : (raiseError e st s).rst = s.rst := rfl
@[simp] theorem raiseError_env (e : ErrKind) (st : SeqState) (s : State) : (raiseError e st s).env = s.env := rfl
@[simp] theorem raiseError_draws (e : ErrKind) (st : SeqState) (s : State) : (raiseError e st s).draws = s.draws := rfl
@[simp] theorem raiseError_reads (e : ErrKind) (st : SeqState) (s : State) : (raiseError e st s).reads = s.reads := rfl

/-! ## clearError -/

@[simp] theorem clearError_status (s : State) : (clearError s).status = s.status.cleared := rfl
@[simp] theorem clearError_errcode (s : State) : (clearError s).errcode = none := rfl
@[simp] theorem clearError_result (s : State) : (clearError s).result = s.result := rfl
@[simp] theorem clearError_crcreg (s : State) : (clearError s).crcreg = s.crcreg := rfl
@[simp] theorem clearError_ftype (s : State) : (clearError s).ftype = s.ftype := rfl
@[simp] theorem clearError_fplen (s : State) : (clearError s).fplen = s.fplen := rfl
@[simp] theorem clearError_fdlen (s : State) : (clearError s).fdlen = s.fdlen := rfl
@[simp] theorem clearError_fcrc (s : State) : (clearError s).fcrc = s.fcrc := rfl
@[simp] theorem clearError_mask (s : State) : (clearError s).mask = s.mask := rfl
@[simp] theorem clearError_frames (s : State) : (clearError s).frames = s.frames := rfl
@[simp] theorem clearError_incnt (s : State) : (clearError s).incnt = s.incnt := rfl
@[simp] theorem clearError_buf (s : State) : (clearError s).buf = s.buf := rfl
@[simp] theorem clearError_seq (s : State) : (clearError s).seq = s.seq := rfl
@[simp] theorem clearError_cur (s : State) : (clearError s).cur = s.cur := rfl
@[simp] theorem clearError_k (s : State) : (clearError s).k = s.k := rfl
@[simp] theorem clearError_acc (s : State) : (clearError s).acc = s.acc := rfl
@[simp] theorem clearError_hi (s : State) : (clearError s).hi = s.hi := rfl
@[simp] theorem clearError_wi (s : State) : (clearError s).wi = s.wi := rfl
@[simp] theorem clearError_nf (s : State) : (clearError s).nf = s.nf := rfl
@[simp] theorem clearError_input (s : State) : (clearError s).input = s.input := rfl
@[simp] theorem clearError_pending (s : State) : (clearError s).pending = s.pending := rfl
@[simp] theorem clearError_sinkReady (s : State) : (clearError s).sinkReady = s.sinkReady := rfl
@[simp] theorem clearError_delivered (s : State) : (clearError s).delivered = s.delivered := rfl
@[simp] theorem clearError_rst (s : State) : (clearError s).rst = s.rst := rfl
@[simp] theorem clearError_env (s : State) : (clearError s).env = s.env := rfl
@[simp] theorem clearError_draws (s : State) : (clearError s).draws = s.draws := rfl
@[simp] theorem clearError_reads (s : State) : (clearError s).reads = s.reads := rfl

/-! ## resetBlock -/

@[simp] theorem resetBlock_status (s : State) : (resetBlock s).status = Status.zero := rfl
@[simp] theorem resetBlock_errcode (s : State) : (resetBlock s).errcode = none := rfl
@[simp] theorem resetBlock_result (s : State) : (resetBlock s).result = 0#32 := rfl
@[simp] theorem resetBlock_crcreg (s : State) : (resetBlock s).crcreg = Config.crcInit := rfl
@[simp] theorem resetBlock_ftype (s : State) : (resetBlock s).ftype = 0#8 := rfl
@[simp] theorem resetBlock_fplen (s : State) : (resetBlock s).fplen = 0#8 := rfl
@[simp] theorem resetBlock_fdlen (s : State) : (resetBlock s).fdlen = 0#8 := rfl
@[simp] theorem resetBlock_fcrc (s : State) : (resetBlock s).fcrc = 0#32 := rfl
@[simp] theorem resetBlock_mask (s : State) : (resetBlock s).mask = 0#32 := rfl
@[simp] theorem resetBlock_frames (s : State) : (resetBlock s).frames = 0#32 := rfl
@[simp] theorem resetBlock_incnt (s : State) : (resetBlock s).incnt = 0#32 := rfl
@[simp] theorem resetBlock_buf (s : State) : (resetBlock s).buf = s.buf := rfl
@[simp] theorem resetBlock_seq (s : State) : (resetBlock s).seq = .idle := rfl
@[simp] theorem resetBlock_cur (s : State) : (resetBlock s).cur = s.cur := rfl
@[simp] theorem resetBlock_k (s : State) : (resetBlock s).k = s.k := rfl
@[simp] theorem resetBlock_acc (s : State) : (resetBlock s).acc = s.acc := rfl
@[simp] theorem resetBlock_hi (s : State) : (resetBlock s).hi = s.hi := rfl
@[simp] theorem resetBlock_wi (s : State) : (resetBlock s).wi = s.wi := rfl
@[simp] theorem resetBlock_nf (s : State) : (resetBlock s).nf = s.nf := rfl
@[simp] theorem resetBlock_input (s : State) : (resetBlock s).input = s.input := rfl
@[simp] theorem resetBlock_pending (s : State) : (resetBlock s).pending = none := rfl
@[simp] theorem resetBlock_sinkReady (s : State) : (resetBlock s).sinkReady = s.sinkReady := rfl
@[simp] theorem resetBlock_delivered (s : State) : (resetBlock s).delivered = s.delivered := rfl
@[simp] theorem resetBlock_rst (s : State) : (resetBlock s).rst = s.rst := rfl
@[simp] theorem resetBlock_env (s : State) : (resetBlock s).env = s.env := rfl
@[simp] theorem resetBlock_draws (s : State) : (resetBlock s).draws = s.draws := rfl
@[simp] theorem resetBlock_reads (s : State) : (resetBlock s).reads = s.reads := rfl

/-! ## accept -/

@[simp] theorem accept_status (w : Word) (s : State) : (accept w s).status = s.status.accepted := rfl
@[simp] theorem accept_errcode (w : Word) (s : State) : (accept w s).errcode = s.errcode := rfl
@[simp] theorem accept_result (w : Word) (s : State) : (accept w s).result = s.result := rfl
@[simp] theorem accept_crcreg (w : Word) (s : State) : (accept w s).crcreg = s.crcreg := rfl
@[simp] theorem accept_ftype (w : Word) (s : State) : (accept w s).ftype = s.ftype := rfl
@[simp] theorem accept_fplen (w : Word) (s : State) : (accept w s).fplen = s.fplen := rfl
@[simp] theorem accept_fdlen (w : Word) (s : State) : (accept w s).fdlen = s.fdlen := rfl
@[simp] theorem accept_fcrc (w : Word) (s : State) : (accept w s).fcrc = s.fcrc := rfl
@[simp] theorem accept_mask (w : Word) (s : State) : (accept w s).mask = s.mask := rfl
@[simp] theorem accept_frames (w : Word) (s : State) : (accept w s).frames = s.frames := rfl
@[simp] theorem accept_incnt (w : Word) (s : State) : (accept w s).incnt = s.incnt := rfl
@[simp] theorem accept_buf (w : Word) (s : State) : (accept w s).buf = s.buf := rfl
@[simp] theorem accept_seq (w : Word) (s : State) : (accept w s).seq = .exec := rfl
@[simp] theorem accept_cur (w : Word) (s : State) : (accept w s).cur = w := rfl
@[simp] theorem accept_k (w : Word) (s : State) : (accept w s).k = s.k := rfl
@[simp] theorem accept_acc (w : Word) (s : State) : (accept w s).acc = s.acc := rfl
@[simp] theorem accept_hi (w : Word) (s : State) : (accept w s).hi = s.hi := rfl
@[simp] theorem accept_wi (w : Word) (s : State) : (accept w s).wi = s.wi := rfl
@[simp] theorem accept_nf (w : Word) (s : State) : (accept w s).nf = s.nf := rfl
@[simp] theorem accept_input (w : Word) (s : State) : (accept w s).input = s.input := rfl
@[simp] theorem accept_pending (w : Word) (s : State) : (accept w s).pending = s.pending := rfl
@[simp] theorem accept_sinkReady (w : Word) (s : State) : (accept w s).sinkReady = s.sinkReady := rfl
@[simp] theorem accept_delivered (w : Word) (s : State) : (accept w s).delivered = s.delivered := rfl
@[simp] theorem accept_rst (w : Word) (s : State) : (accept w s).rst = s.rst := rfl
@[simp] theorem accept_env (w : Word) (s : State) : (accept w s).env = s.env := rfl
@[simp] theorem accept_draws (w : Word) (s : State) : (accept w s).draws = s.draws := rfl
@[simp] theorem accept_reads (w : Word) (s : State) : (accept w s).reads = s.reads := rfl

/-! ## enter -/

@[simp] theorem enter_status (st : SeqState) (s : State) : (enter st s).status = s.status := rfl
@[simp] theorem enter_errcode (st : SeqState) (s : State) : (enter st s).errcode = s.errcode := rfl
@[simp] theorem enter_result (st : SeqState) (s : State) : (enter st s).result = s.result := rfl
@[simp] theorem enter_crcreg (st : SeqState) (s : State) : (enter st s).crcreg = s.crcreg := rfl
@[simp] theorem enter_ftype (st : SeqState) (s : State) : (enter st s).ftype = s.ftype := rfl
@[simp] theorem enter_fplen (st : SeqState) (s : State) : (enter st s).fplen = s.fplen := rfl
@[simp] theorem enter_fdlen (st : SeqState) (s : State) : (enter st s).fdlen = s.fdlen := rfl
@[simp] theorem enter_fcrc (st : SeqState) (s : State) : (enter st s).fcrc = s.fcrc := rfl
@[simp] theorem enter_mask (st : SeqState) (s : State) : (enter st s).mask = s.mask := rfl
@[simp] theorem enter_frames (st : SeqState) (s : State) : (enter st s).frames = s.frames := rfl
@[simp] theorem enter_incnt (st : SeqState) (s : State) : (enter st s).incnt = s.incnt := rfl
@[simp] theorem enter_buf (st : SeqState) (s : State) : (enter st s).buf = s.buf := rfl
@[simp] theorem enter_seq (st : SeqState) (s : State) : (enter st s).seq = st := rfl
@[simp] theorem enter_cur (st : SeqState) (s : State) : (enter st s).cur = s.cur := rfl
@[simp] theorem enter_k (st : SeqState) (s : State) : (enter st s).k = 0 := rfl
@[simp] theorem enter_acc (st : SeqState) (s : State) : (enter st s).acc = 0#32 := rfl
@[simp] theorem enter_hi (st : SeqState) (s : State) : (enter st s).hi = s.hi := rfl
@[simp] theorem enter_wi (st : SeqState) (s : State) : (enter st s).wi = s.wi := rfl
@[simp] theorem enter_nf (st : SeqState) (s : State) : (enter st s).nf = s.nf := rfl
@[simp] theorem enter_input (st : SeqState) (s : State) : (enter st s).input = s.input := rfl
@[simp] theorem enter_pending (st : SeqState) (s : State) : (enter st s).pending = s.pending := rfl
@[simp] theorem enter_sinkReady (st : SeqState) (s : State) : (enter st s).sinkReady = s.sinkReady := rfl
@[simp] theorem enter_delivered (st : SeqState) (s : State) : (enter st s).delivered = s.delivered := rfl
@[simp] theorem enter_rst (st : SeqState) (s : State) : (enter st s).rst = s.rst := rfl
@[simp] theorem enter_env (st : SeqState) (s : State) : (enter st s).env = s.env := rfl
@[simp] theorem enter_draws (st : SeqState) (s : State) : (enter st s).draws = s.draws := rfl
@[simp] theorem enter_reads (st : SeqState) (s : State) : (enter st s).reads = s.reads := rfl

/-! ## takeByte -/

@[simp] theorem takeByte_status (rest : List Byte) (s : State) : (takeByte rest s).status = s.status := rfl
@[simp] theorem takeByte_errcode (rest : List Byte) (s : State) : (takeByte rest s).errcode = s.errcode := rfl
@[simp] theorem takeByte_result (rest : List Byte) (s : State) : (takeByte rest s).result = s.result := rfl
@[simp] theorem takeByte_crcreg (rest : List Byte) (s : State) : (takeByte rest s).crcreg = s.crcreg := rfl
@[simp] theorem takeByte_ftype (rest : List Byte) (s : State) : (takeByte rest s).ftype = s.ftype := rfl
@[simp] theorem takeByte_fplen (rest : List Byte) (s : State) : (takeByte rest s).fplen = s.fplen := rfl
@[simp] theorem takeByte_fdlen (rest : List Byte) (s : State) : (takeByte rest s).fdlen = s.fdlen := rfl
@[simp] theorem takeByte_fcrc (rest : List Byte) (s : State) : (takeByte rest s).fcrc = s.fcrc := rfl
@[simp] theorem takeByte_mask (rest : List Byte) (s : State) : (takeByte rest s).mask = s.mask := rfl
@[simp] theorem takeByte_frames (rest : List Byte) (s : State) : (takeByte rest s).frames = s.frames := rfl
@[simp] theorem takeByte_incnt (rest : List Byte) (s : State) : (takeByte rest s).incnt = s.incnt + 1#32 := rfl
@[simp] theorem takeByte_buf (rest : List Byte) (s : State) : (takeByte rest s).buf = s.buf := rfl
@[simp] theorem takeByte_seq (rest : List Byte) (s : State) : (takeByte rest s).seq = s.seq := rfl
@[simp] theorem takeByte_cur (rest : List Byte) (s : State) : (takeByte rest s).cur = s.cur := rfl
@[simp] theorem takeByte_k (rest : List Byte) (s : State) : (takeByte rest s).k = s.k := rfl
@[simp] theorem takeByte_acc (rest : List Byte) (s : State) : (takeByte rest s).acc = s.acc := rfl
@[simp] theorem takeByte_hi (rest : List Byte) (s : State) : (takeByte rest s).hi = s.hi := rfl
@[simp] theorem takeByte_wi (rest : List Byte) (s : State) : (takeByte rest s).wi = s.wi := rfl
@[simp] theorem takeByte_nf (rest : List Byte) (s : State) : (takeByte rest s).nf = s.nf := rfl
@[simp] theorem takeByte_input (rest : List Byte) (s : State) : (takeByte rest s).input = { s.input with ahead := rest, pos := s.input.pos + 1 } := rfl
@[simp] theorem takeByte_pending (rest : List Byte) (s : State) : (takeByte rest s).pending = s.pending := rfl
@[simp] theorem takeByte_sinkReady (rest : List Byte) (s : State) : (takeByte rest s).sinkReady = s.sinkReady := rfl
@[simp] theorem takeByte_delivered (rest : List Byte) (s : State) : (takeByte rest s).delivered = s.delivered := rfl
@[simp] theorem takeByte_rst (rest : List Byte) (s : State) : (takeByte rest s).rst = s.rst := rfl
@[simp] theorem takeByte_env (rest : List Byte) (s : State) : (takeByte rest s).env = s.env := rfl
@[simp] theorem takeByte_draws (rest : List Byte) (s : State) : (takeByte rest s).draws = s.draws := rfl
@[simp] theorem takeByte_reads (rest : List Byte) (s : State) : (takeByte rest s).reads = s.reads := rfl

/-! ## callEmit -/

@[simp] theorem callEmit_status (kind : SnapKind) (s : State) (n : Nat) : (callEmit kind s n).status = s.status := rfl
@[simp] theorem callEmit_errcode (kind : SnapKind) (s : State) (n : Nat) : (callEmit kind s n).errcode = s.errcode := rfl
@[simp] theorem callEmit_result (kind : SnapKind) (s : State) (n : Nat) : (callEmit kind s n).result = s.result := rfl
@[simp] theorem callEmit_crcreg (kind : SnapKind) (s : State) (n : Nat) : (callEmit kind s n).crcreg = s.crcreg := rfl
@[simp] theorem callEmit_ftype (kind : SnapKind) (s : State) (n : Nat) : (callEmit kind s n).ftype = s.ftype := rfl
@[simp] theorem callEmit_fplen (kind : SnapKind) (s : State) (n : Nat) : (callEmit kind s n).fplen = s.fplen := rfl
@[simp] theorem callEmit_fdlen (kind : SnapKind) (s : State) (n : Nat) : (callEmit kind s n).fdlen = s.fdlen := rfl
@[simp] theorem callEmit_fcrc (kind : SnapKind) (s : State) (n : Nat) : (callEmit kind s n).fcrc = s.fcrc := rfl
@[simp] theorem callEmit_mask (kind : SnapKind) (s : State) (n : Nat) : (callEmit kind s n).mask = s.mask := rfl
@[simp] theorem callEmit_frames (kind : SnapKind) (s : State) (n : Nat) : (callEmit kind s n).frames = s.frames := rfl
@[simp] theorem callEmit_incnt (kind : SnapKind) (s : State) (n : Nat) : (callEmit kind s n).incnt = s.incnt := rfl
@[simp] theorem callEmit_buf (kind : SnapKind) (s : State) (n : Nat) : (callEmit kind s n).buf = s.buf := rfl
@[simp] theorem callEmit_seq (kind : SnapKind) (s : State) (n : Nat) : (callEmit kind s n).seq = .emit := rfl
@[simp] theorem callEmit_cur (kind : SnapKind) (s : State) (n : Nat) : (callEmit kind s n).cur = s.cur := rfl
@[simp] theorem callEmit_k (kind : SnapKind) (s : State) (n : Nat) : (callEmit kind s n).k = s.k := rfl
@[simp] theorem callEmit_acc (kind : SnapKind) (s : State) (n : Nat) : (callEmit kind s n).acc = s.acc := rfl
@[simp] theorem callEmit_hi (kind : SnapKind) (s : State) (n : Nat) : (callEmit kind s n).hi = s.hi := rfl
@[simp] theorem callEmit_wi (kind : SnapKind) (s : State) (n : Nat) : (callEmit kind s n).wi = s.wi := rfl
@[simp] theorem callEmit_nf (kind : SnapKind) (s : State) (n : Nat) : (callEmit kind s n).nf = s.nf := rfl
@[simp] theorem callEmit_input (kind : SnapKind) (s : State) (n : Nat) : (callEmit kind s n).input = s.input := rfl
@[simp] theorem callEmit_pending (kind : SnapKind) (s : State) (n : Nat) : (callEmit kind s n).pending = some (snapshotOf kind s n) := rfl
@[simp] theorem callEmit_sinkReady (kind : SnapKind) (s : State) (n : Nat) : (callEmit kind s n).sinkReady = s.sinkReady := rfl
@[simp] theorem callEmit_delivered (kind : SnapKind) (s : State) (n : Nat) : (callEmit kind s n).delivered = s.delivered := rfl
@[simp] theorem callEmit_rst (kind : SnapKind) (s : State) (n : Nat) : (callEmit kind s n).rst = s.rst := rfl
@[simp] theorem callEmit_env (kind : SnapKind) (s : State) (n : Nat) : (callEmit kind s n).env = s.env := rfl
@[simp] theorem callEmit_draws (kind : SnapKind) (s : State) (n : Nat) : (callEmit kind s n).draws = s.draws := rfl
@[simp] theorem callEmit_reads (kind : SnapKind) (s : State) (n : Nat) : (callEmit kind s n).reads = s.reads := rfl

/-! ## deliver -/

@[simp] theorem deliver_status (p : Snapshot) (s : State) : (deliver p s).status = s.status := rfl
@[simp] theorem deliver_errcode (p : Snapshot) (s : State) : (deliver p s).errcode = s.errcode := rfl
@[simp] theorem deliver_result (p : Snapshot) (s : State) : (deliver p s).result = s.result := rfl
@[simp] theorem deliver_crcreg (p : Snapshot) (s : State) : (deliver p s).crcreg = s.crcreg := rfl
@[simp] theorem deliver_ftype (p : Snapshot) (s : State) : (deliver p s).ftype = s.ftype := rfl
@[simp] theorem deliver_fplen (p : Snapshot) (s : State) : (deliver p s).fplen = s.fplen := rfl
@[simp] theorem deliver_fdlen (p : Snapshot) (s : State) : (deliver p s).fdlen = s.fdlen := rfl
@[simp] theorem deliver_fcrc (p : Snapshot) (s : State) : (deliver p s).fcrc = s.fcrc := rfl
@[simp] theorem deliver_mask (p : Snapshot) (s : State) : (deliver p s).mask = s.mask := rfl
@[simp] theorem deliver_frames (p : Snapshot) (s : State) : (deliver p s).frames = s.frames := rfl
@[simp] theorem deliver_incnt (p : Snapshot) (s : State) : (deliver p s).incnt = s.incnt := rfl
@[simp] theorem deliver_buf (p : Snapshot) (s : State) : (deliver p s).buf = s.buf := rfl
@[simp] theorem deliver_seq (p : Snapshot) (s : State) : (deliver p s).seq = s.seq := rfl
@[simp] theorem deliver_cur (p : Snapshot) (s : State) : (deliver p s).cur = s.cur := rfl
@[simp] theorem deliver_k (p : Snapshot) (s : State) : (deliver p s).k = s.k := rfl
@[simp] theorem deliver_acc (p : Snapshot) (s : State) : (deliver p s).acc = s.acc := rfl
@[simp] theorem deliver_hi (p : Snapshot) (s : State) : (deliver p s).hi = s.hi := rfl
@[simp] theorem deliver_wi (p : Snapshot) (s : State) : (deliver p s).wi = s.wi := rfl
@[simp] theorem deliver_nf (p : Snapshot) (s : State) : (deliver p s).nf = s.nf := rfl
@[simp] theorem deliver_input (p : Snapshot) (s : State) : (deliver p s).input = s.input := rfl
@[simp] theorem deliver_pending (p : Snapshot) (s : State) : (deliver p s).pending = none := rfl
@[simp] theorem deliver_sinkReady (p : Snapshot) (s : State) : (deliver p s).sinkReady = s.sinkReady := rfl
@[simp] theorem deliver_delivered (p : Snapshot) (s : State) : (deliver p s).delivered = s.delivered ++ [p] := rfl
@[simp] theorem deliver_rst (p : Snapshot) (s : State) : (deliver p s).rst = s.rst := rfl
@[simp] theorem deliver_env (p : Snapshot) (s : State) : (deliver p s).env = s.env := rfl
@[simp] theorem deliver_draws (p : Snapshot) (s : State) : (deliver p s).draws = s.draws := rfl
@[simp] theorem deliver_reads (p : Snapshot) (s : State) : (deliver p s).reads = s.reads := rfl

/-! ## countFrame -/

@[simp] theorem countFrame_status (s : State) : (countFrame s).status = s.status := rfl
@[simp] theorem countFrame_errcode (s : State) : (countFrame s).errcode = s.errcode := rfl
@[simp] theorem countFrame_result (s : State) : (countFrame s).result = s.result := rfl
@[simp] theorem countFrame_crcreg (s : State) : (countFrame s).crcreg = s.crcreg := rfl
@[simp] theorem countFrame_ftype (s : State) : (countFrame s).ftype = s.ftype := rfl
@[simp] theorem countFrame_fplen (s : State) : (countFrame s).fplen = s.fplen := rfl
@[simp] theorem countFrame_fdlen (s : State) : (countFrame s).fdlen = s.fdlen := rfl
@[simp] theorem countFrame_fcrc (s : State) : (countFrame s).fcrc = s.fcrc := rfl
@[simp] theorem countFrame_mask (s : State) : (countFrame s).mask = s.mask := rfl
@[simp] theorem countFrame_frames (s : State) : (countFrame s).frames = s.frames + 1#32 := rfl
@[simp] theorem countFrame_incnt (s : State) : (countFrame s).incnt = s.incnt := rfl
@[simp] theorem countFrame_buf (s : State) : (countFrame s).buf = s.buf := rfl
@[simp] theorem countFrame_seq (s : State) : (countFrame s).seq = s.seq := rfl
@[simp] theorem countFrame_cur (s : State) : (countFrame s).cur = s.cur := rfl
@[simp] theorem countFrame_k (s : State) : (countFrame s).k = s.k := rfl
@[simp] theorem countFrame_acc (s : State) : (countFrame s).acc = s.acc := rfl
@[simp] theorem countFrame_hi (s : State) : (countFrame s).hi = s.hi := rfl
@[simp] theorem countFrame_wi (s : State) : (countFrame s).wi = s.wi := rfl
@[simp] theorem countFrame_nf (s : State) : (countFrame s).nf = s.nf + 1#32 := rfl
@[simp] theorem countFrame_input (s : State) : (countFrame s).input = s.input := rfl
@[simp] theorem countFrame_pending (s : State) : (countFrame s).pending = s.pending := rfl
@[simp] theorem countFrame_sinkReady (s : State) : (countFrame s).sinkReady = s.sinkReady := rfl
@[simp] theorem countFrame_delivered (s : State) : (countFrame s).delivered = s.delivered := rfl
@[simp] theorem countFrame_rst (s : State) : (countFrame s).rst = s.rst := rfl
@[simp] theorem countFrame_env (s : State) : (countFrame s).env = s.env := rfl
@[simp] theorem countFrame_draws (s : State) : (countFrame s).draws = s.draws := rfl
@[simp] theorem countFrame_reads (s : State) : (countFrame s).reads = s.reads := rfl

/-! ## crcOverBuf -/

@[simp] theorem crcOverBuf_status (n : Nat) (s : State) : (crcOverBuf n s).status = s.status := rfl
@[simp] theorem crcOverBuf_errcode (n : Nat) (s : State) : (crcOverBuf n s).errcode = s.errcode := rfl
@[simp] theorem crcOverBuf_result (n : Nat) (s : State) : (crcOverBuf n s).result = s.result := rfl
@[simp] theorem crcOverBuf_crcreg (n : Nat) (s : State) : (crcOverBuf n s).crcreg = crcRegister Config.crcInit (s.buf.bytes n) := rfl
@[simp] theorem crcOverBuf_ftype (n : Nat) (s : State) : (crcOverBuf n s).ftype = s.ftype := rfl
@[simp] theorem crcOverBuf_fplen (n : Nat) (s : State) : (crcOverBuf n s).fplen = s.fplen := rfl
@[simp] theorem crcOverBuf_fdlen (n : Nat) (s : State) : (crcOverBuf n s).fdlen = s.fdlen := rfl
@[simp] theorem crcOverBuf_fcrc (n : Nat) (s : State) : (crcOverBuf n s).fcrc = s.fcrc := rfl
@[simp] theorem crcOverBuf_mask (n : Nat) (s : State) : (crcOverBuf n s).mask = s.mask := rfl
@[simp] theorem crcOverBuf_frames (n : Nat) (s : State) : (crcOverBuf n s).frames = s.frames := rfl
@[simp] theorem crcOverBuf_incnt (n : Nat) (s : State) : (crcOverBuf n s).incnt = s.incnt := rfl
@[simp] theorem crcOverBuf_buf (n : Nat) (s : State) : (crcOverBuf n s).buf = s.buf := rfl
@[simp] theorem crcOverBuf_seq (n : Nat) (s : State) : (crcOverBuf n s).seq = s.seq := rfl
@[simp] theorem crcOverBuf_cur (n : Nat) (s : State) : (crcOverBuf n s).cur = s.cur := rfl
@[simp] theorem crcOverBuf_k (n : Nat) (s : State) : (crcOverBuf n s).k = s.k := rfl
@[simp] theorem crcOverBuf_acc (n : Nat) (s : State) : (crcOverBuf n s).acc = s.acc := rfl
@[simp] theorem crcOverBuf_hi (n : Nat) (s : State) : (crcOverBuf n s).hi = s.hi := rfl
@[simp] theorem crcOverBuf_wi (n : Nat) (s : State) : (crcOverBuf n s).wi = s.wi := rfl
@[simp] theorem crcOverBuf_nf (n : Nat) (s : State) : (crcOverBuf n s).nf = s.nf := rfl
@[simp] theorem crcOverBuf_input (n : Nat) (s : State) : (crcOverBuf n s).input = s.input := rfl
@[simp] theorem crcOverBuf_pending (n : Nat) (s : State) : (crcOverBuf n s).pending = s.pending := rfl
@[simp] theorem crcOverBuf_sinkReady (n : Nat) (s : State) : (crcOverBuf n s).sinkReady = s.sinkReady := rfl
@[simp] theorem crcOverBuf_delivered (n : Nat) (s : State) : (crcOverBuf n s).delivered = s.delivered := rfl
@[simp] theorem crcOverBuf_rst (n : Nat) (s : State) : (crcOverBuf n s).rst = s.rst := rfl
@[simp] theorem crcOverBuf_env (n : Nat) (s : State) : (crcOverBuf n s).env = s.env := rfl
@[simp] theorem crcOverBuf_draws (n : Nat) (s : State) : (crcOverBuf n s).draws = s.draws := rfl
@[simp] theorem crcOverBuf_reads (n : Nat) (s : State) : (crcOverBuf n s).reads = s.reads := rfl

/-! ## signalEnd -/

@[simp] theorem signalEnd_status (s : State) : (signalEnd s).status = s.status := rfl
@[simp] theorem signalEnd_errcode (s : State) : (signalEnd s).errcode = s.errcode := rfl
@[simp] theorem signalEnd_result (s : State) : (signalEnd s).result = s.result := rfl
@[simp] theorem signalEnd_crcreg (s : State) : (signalEnd s).crcreg = s.crcreg := rfl
@[simp] theorem signalEnd_ftype (s : State) : (signalEnd s).ftype = s.ftype := rfl
@[simp] theorem signalEnd_fplen (s : State) : (signalEnd s).fplen = s.fplen := rfl
@[simp] theorem signalEnd_fdlen (s : State) : (signalEnd s).fdlen = s.fdlen := rfl
@[simp] theorem signalEnd_fcrc (s : State) : (signalEnd s).fcrc = s.fcrc := rfl
@[simp] theorem signalEnd_mask (s : State) : (signalEnd s).mask = s.mask := rfl
@[simp] theorem signalEnd_frames (s : State) : (signalEnd s).frames = s.frames := rfl
@[simp] theorem signalEnd_incnt (s : State) : (signalEnd s).incnt = s.incnt := rfl
@[simp] theorem signalEnd_buf (s : State) : (signalEnd s).buf = s.buf := rfl
@[simp] theorem signalEnd_seq (s : State) : (signalEnd s).seq = s.seq := rfl
@[simp] theorem signalEnd_cur (s : State) : (signalEnd s).cur = s.cur := rfl
@[simp] theorem signalEnd_k (s : State) : (signalEnd s).k = s.k := rfl
@[simp] theorem signalEnd_acc (s : State) : (signalEnd s).acc = s.acc := rfl
@[simp] theorem signalEnd_hi (s : State) : (signalEnd s).hi = s.hi := rfl
@[simp] theorem signalEnd_wi (s : State) : (signalEnd s).wi = s.wi := rfl
@[simp] theorem signalEnd_nf (s : State) : (signalEnd s).nf = s.nf := rfl
@[simp] theorem signalEnd_input (s : State) : (signalEnd s).input = { s.input with ended := true } := rfl
@[simp] theorem signalEnd_pending (s : State) : (signalEnd s).pending = s.pending := rfl
@[simp] theorem signalEnd_sinkReady (s : State) : (signalEnd s).sinkReady = s.sinkReady := rfl
@[simp] theorem signalEnd_delivered (s : State) : (signalEnd s).delivered = s.delivered := rfl
@[simp] theorem signalEnd_rst (s : State) : (signalEnd s).rst = s.rst := rfl
@[simp] theorem signalEnd_env (s : State) : (signalEnd s).env = s.env := rfl
@[simp] theorem signalEnd_draws (s : State) : (signalEnd s).draws = s.draws := rfl
@[simp] theorem signalEnd_reads (s : State) : (signalEnd s).reads = s.reads := rfl

/-! ## connectStream -/

@[simp] theorem connectStream_status (s : State) : (connectStream s).status = s.status := rfl
@[simp] theorem connectStream_errcode (s : State) : (connectStream s).errcode = s.errcode := rfl
@[simp] theorem connectStream_result (s : State) : (connectStream s).result = s.result := rfl
@[simp] theorem connectStream_crcreg (s : State) : (connectStream s).crcreg = s.crcreg := rfl
@[simp] theorem connectStream_ftype (s : State) : (connectStream s).ftype = s.ftype := rfl
@[simp] theorem connectStream_fplen (s : State) : (connectStream s).fplen = s.fplen := rfl
@[simp] theorem connectStream_fdlen (s : State) : (connectStream s).fdlen = s.fdlen := rfl
@[simp] theorem connectStream_fcrc (s : State) : (connectStream s).fcrc = s.fcrc := rfl
@[simp] theorem connectStream_mask (s : State) : (connectStream s).mask = s.mask := rfl
@[simp] theorem connectStream_frames (s : State) : (connectStream s).frames = s.frames := rfl
@[simp] theorem connectStream_incnt (s : State) : (connectStream s).incnt = s.incnt := rfl
@[simp] theorem connectStream_buf (s : State) : (connectStream s).buf = s.buf := rfl
@[simp] theorem connectStream_seq (s : State) : (connectStream s).seq = s.seq := rfl
@[simp] theorem connectStream_cur (s : State) : (connectStream s).cur = s.cur := rfl
@[simp] theorem connectStream_k (s : State) : (connectStream s).k = s.k := rfl
@[simp] theorem connectStream_acc (s : State) : (connectStream s).acc = s.acc := rfl
@[simp] theorem connectStream_hi (s : State) : (connectStream s).hi = s.hi := rfl
@[simp] theorem connectStream_wi (s : State) : (connectStream s).wi = s.wi := rfl
@[simp] theorem connectStream_nf (s : State) : (connectStream s).nf = s.nf := rfl
@[simp] theorem connectStream_input (s : State) : (connectStream s).input = { ahead := [], ended := false, pos := 0 } := rfl
@[simp] theorem connectStream_pending (s : State) : (connectStream s).pending = s.pending := rfl
@[simp] theorem connectStream_sinkReady (s : State) : (connectStream s).sinkReady = s.sinkReady := rfl
@[simp] theorem connectStream_delivered (s : State) : (connectStream s).delivered = s.delivered := rfl
@[simp] theorem connectStream_rst (s : State) : (connectStream s).rst = s.rst := rfl
@[simp] theorem connectStream_env (s : State) : (connectStream s).env = s.env := rfl
@[simp] theorem connectStream_draws (s : State) : (connectStream s).draws = s.draws := rfl
@[simp] theorem connectStream_reads (s : State) : (connectStream s).reads = s.reads := rfl

/-! ## setRst -/

@[simp] theorem setRst_status (level : Bool) (s : State) : (setRst level s).status = Status.zero := rfl
@[simp] theorem setRst_errcode (level : Bool) (s : State) : (setRst level s).errcode = none := rfl
@[simp] theorem setRst_result (level : Bool) (s : State) : (setRst level s).result = 0#32 := rfl
@[simp] theorem setRst_crcreg (level : Bool) (s : State) : (setRst level s).crcreg = Config.crcInit := rfl
@[simp] theorem setRst_ftype (level : Bool) (s : State) : (setRst level s).ftype = 0#8 := rfl
@[simp] theorem setRst_fplen (level : Bool) (s : State) : (setRst level s).fplen = 0#8 := rfl
@[simp] theorem setRst_fdlen (level : Bool) (s : State) : (setRst level s).fdlen = 0#8 := rfl
@[simp] theorem setRst_fcrc (level : Bool) (s : State) : (setRst level s).fcrc = 0#32 := rfl
@[simp] theorem setRst_mask (level : Bool) (s : State) : (setRst level s).mask = 0#32 := rfl
@[simp] theorem setRst_frames (level : Bool) (s : State) : (setRst level s).frames = 0#32 := rfl
@[simp] theorem setRst_incnt (level : Bool) (s : State) : (setRst level s).incnt = 0#32 := rfl
@[simp] theorem setRst_buf (level : Bool) (s : State) : (setRst level s).buf = s.buf := rfl
@[simp] theorem setRst_seq (level : Bool) (s : State) : (setRst level s).seq = .idle := rfl
@[simp] theorem setRst_cur (level : Bool) (s : State) : (setRst level s).cur = s.cur := rfl
@[simp] theorem setRst_k (level : Bool) (s : State) : (setRst level s).k = s.k := rfl
@[simp] theorem setRst_acc (level : Bool) (s : State) : (setRst level s).acc = s.acc := rfl
@[simp] theorem setRst_hi (level : Bool) (s : State) : (setRst level s).hi = s.hi := rfl
@[simp] theorem setRst_wi (level : Bool) (s : State) : (setRst level s).wi = s.wi := rfl
@[simp] theorem setRst_nf (level : Bool) (s : State) : (setRst level s).nf = s.nf := rfl
@[simp] theorem setRst_input (level : Bool) (s : State) : (setRst level s).input = s.input := rfl
@[simp] theorem setRst_pending (level : Bool) (s : State) : (setRst level s).pending = none := rfl
@[simp] theorem setRst_sinkReady (level : Bool) (s : State) : (setRst level s).sinkReady = s.sinkReady := rfl
@[simp] theorem setRst_delivered (level : Bool) (s : State) : (setRst level s).delivered = s.delivered := rfl
@[simp] theorem setRst_rst (level : Bool) (s : State) : (setRst level s).rst = level := rfl
@[simp] theorem setRst_env (level : Bool) (s : State) : (setRst level s).env = s.env := rfl
@[simp] theorem setRst_draws (level : Bool) (s : State) : (setRst level s).draws = s.draws := rfl
@[simp] theorem setRst_reads (level : Bool) (s : State) : (setRst level s).reads = s.reads := rfl

/-! ## Flags -/

@[simp] theorem Status.accepted_busy (g : Status) : g.accepted.busy = true := rfl
@[simp] theorem Status.accepted_done (g : Status) : g.accepted.done = false := rfl
@[simp] theorem Status.accepted_err (g : Status) : g.accepted.err = g.err := rfl
@[simp] theorem Status.accepted_eosf (g : Status) : g.accepted.eosf = false := rfl
@[simp] theorem Status.accepted_ovr (g : Status) : g.accepted.ovr = g.ovr := rfl
@[simp] theorem Status.accepted_errstate (g : Status) : g.accepted.errstate = g.errstate := rfl
@[simp] theorem Status.finished_busy (g : Status) : g.finished.busy = false := rfl
@[simp] theorem Status.finished_done (g : Status) : g.finished.done = true := rfl
@[simp] theorem Status.finished_err (g : Status) : g.finished.err = g.err := rfl
@[simp] theorem Status.finished_eosf (g : Status) : g.finished.eosf = g.eosf := rfl
@[simp] theorem Status.finished_ovr (g : Status) : g.finished.ovr = g.ovr := rfl
@[simp] theorem Status.finished_errstate (g : Status) : g.finished.errstate = g.errstate := rfl
@[simp] theorem Status.cleared_busy (g : Status) : g.cleared.busy = g.busy := rfl
@[simp] theorem Status.cleared_done (g : Status) : g.cleared.done = g.done := rfl
@[simp] theorem Status.cleared_err (g : Status) : g.cleared.err = false := rfl
@[simp] theorem Status.cleared_eosf (g : Status) : g.cleared.eosf = g.eosf := rfl
@[simp] theorem Status.cleared_ovr (g : Status) : g.cleared.ovr = false := rfl
@[simp] theorem Status.cleared_errstate (g : Status) : g.cleared.errstate = .idle := rfl
@[simp] theorem Status.dropped_busy (g : Status) : g.dropped.busy = g.busy := rfl
@[simp] theorem Status.dropped_done (g : Status) : g.dropped.done = g.done := rfl
@[simp] theorem Status.dropped_err (g : Status) : g.dropped.err = g.err := rfl
@[simp] theorem Status.dropped_eosf (g : Status) : g.dropped.eosf = g.eosf := rfl
@[simp] theorem Status.dropped_ovr (g : Status) : g.dropped.ovr = true := rfl
@[simp] theorem Status.dropped_errstate (g : Status) : g.dropped.errstate = g.errstate := rfl
@[simp] theorem Status.atEndOfStream_busy (g : Status) : g.atEndOfStream.busy = g.busy := rfl
@[simp] theorem Status.atEndOfStream_done (g : Status) : g.atEndOfStream.done = g.done := rfl
@[simp] theorem Status.atEndOfStream_err (g : Status) : g.atEndOfStream.err = g.err := rfl
@[simp] theorem Status.atEndOfStream_eosf (g : Status) : g.atEndOfStream.eosf = true := rfl
@[simp] theorem Status.atEndOfStream_ovr (g : Status) : g.atEndOfStream.ovr = g.ovr := rfl
@[simp] theorem Status.atEndOfStream_errstate (g : Status) : g.atEndOfStream.errstate = g.errstate := rfl
@[simp] theorem Status.errored_busy (st : SeqState) (g : Status) : (g.errored st).busy = false := rfl
@[simp] theorem Status.errored_done (st : SeqState) (g : Status) : (g.errored st).done = false := rfl
@[simp] theorem Status.errored_err (st : SeqState) (g : Status) : (g.errored st).err = true := rfl
@[simp] theorem Status.errored_eosf (st : SeqState) (g : Status) : (g.errored st).eosf = g.eosf := rfl
@[simp] theorem Status.errored_ovr (st : SeqState) (g : Status) : (g.errored st).ovr = g.ovr := rfl
@[simp] theorem Status.errored_errstate (st : SeqState) (g : Status) : (g.errored st).errstate = st := rfl
@[simp] theorem Status.zero_busy : Status.zero.busy = false := rfl
@[simp] theorem Status.zero_done : Status.zero.done = false := rfl
@[simp] theorem Status.zero_err : Status.zero.err = false := rfl
@[simp] theorem Status.zero_eosf : Status.zero.eosf = false := rfl
@[simp] theorem Status.zero_ovr : Status.zero.ovr = false := rfl
@[simp] theorem Status.zero_errstate : Status.zero.errstate = .idle := rfl

end Sys2Proof.Machine
end

