-- ==== Sys2Proof/Laws/Ops.lean ====
section
/-!
SUPPORT. For each shared operation, one lemma that says once everything it can do.
-/

namespace Sys2Proof.Machine

/-! ## The input port -/

/-- `InRead()` takes the next byte, or meets end-of-input, or waits. -/
theorem inRead_cases (s : State) :
    (s.input.ahead = [] ∧ s.input.ended = false ∧ inRead s = .wait) ∨
    (s.input.ahead = [] ∧ s.input.ended = true ∧ inRead s = .eos) ∨
    ∃ c rest, s.input.ahead = c :: rest ∧ inRead s = .byte c (takeByte rest s) := by
  unfold inRead
  split
  · rename_i c rest h; exact .inr (.inr ⟨c, rest, h, rfl⟩)
  · rename_i h
    cases he : s.input.ended
    · exact .inl ⟨h, rfl, rfl⟩
    · exact .inr (.inl ⟨h, rfl, rfl⟩)

theorem inRead_byte {s : State} {c : Byte} {rest : List Byte} (h : s.input.ahead = c :: rest) :
    inRead s = .byte c (takeByte rest s) := by simp [inRead, h]

theorem inRead_eos {s : State} (h : s.input.ahead = []) (he : s.input.ended = true) : inRead s = .eos := by
  simp [inRead, h, he]

theorem inRead_wait {s : State} (h : s.input.ahead = []) (he : s.input.ended = false) : inRead s = .wait := by
  simp [inRead, h, he]

/-- One character of a hex field waits, meets end-of-input, fails, or gives its digit. -/
theorem readNibble_cases (st : SeqState) (short : ErrKind) (s : State) (f : BitVec 4 → State → Out) :
    (s.input.ahead = [] ∧ s.input.ended = false ∧ readNibble st short s f = .next s) ∨
    (s.input.ahead = [] ∧ s.input.ended = true ∧ readNibble st short s f = .next (raiseError short st s)) ∨
    ∃ c rest, s.input.ahead = c :: rest ∧
      ((hexval c = none ∧ readNibble st short s f = .next (raiseError .conversion st (takeByte rest s))) ∨
        ∃ n, hexval c = some n ∧ readNibble st short s f = f n (takeByte rest s)) := by
  rcases inRead_cases s with ⟨h, he, hr⟩ | ⟨h, he, hr⟩ | ⟨c, rest, h, hr⟩
  · exact .inl ⟨h, he, by simp [readNibble, hr]⟩
  · exact .inr (.inl ⟨h, he, by simp [readNibble, hr]⟩)
  · refine .inr (.inr ⟨c, rest, h, ?_⟩)
    cases hv : hexval c with
    | none => exact .inl ⟨rfl, by simp [readNibble, hr, hv]⟩
    | some n => exact .inr ⟨n, rfl, by simp [readNibble, hr, hv]⟩

/-- One character of a field of hex pairs: the first of a pair is kept, the second completes the byte. -/
theorem pairStep_cases (st : SeqState) (short : ErrKind) (s : State) (done : Byte → State → Out) :
    (s.input.ahead = [] ∧ s.input.ended = false ∧ pairStep st short s done = .next s) ∨
    (s.input.ahead = [] ∧ s.input.ended = true ∧ pairStep st short s done = .next (raiseError short st s)) ∨
    ∃ c rest, s.input.ahead = c :: rest ∧
      ((hexval c = none ∧ pairStep st short s done = .next (raiseError .conversion st (takeByte rest s))) ∨
        ∃ n, hexval c = some n ∧
          ((s.k % 2 = 0 ∧ pairStep st short s done = .next { takeByte rest s with hi := n, k := s.k + 1 }) ∨
            (s.k % 2 = 1 ∧ pairStep st short s done = done (s.hi ++ n) { takeByte rest s with k := s.k + 1 }))) := by
  unfold pairStep
  rcases readNibble_cases st short s _ with h | h | ⟨c, rest, ha, ⟨hv, hr⟩ | ⟨n, hv, hr⟩⟩
  · exact .inl h
  · exact .inr (.inl h)
  · exact .inr (.inr ⟨c, rest, ha, .inl ⟨hv, hr⟩⟩)
  · refine .inr (.inr ⟨c, rest, ha, .inr ⟨n, hv, ?_⟩⟩)
    rw [hr]
    by_cases hk : s.k % 2 = 0
    · exact .inl ⟨hk, by simp [hk]⟩
    · exact .inr ⟨by omega, by simp [hk]⟩

/-- One character of a field of 8. -/
theorem wordStep_cases (st : SeqState) (short : ErrKind) (s : State) (done : Word → State → Out) :
    (s.input.ahead = [] ∧ s.input.ended = false ∧ wordStep st short s done = .next s) ∨
    (s.input.ahead = [] ∧ s.input.ended = true ∧ wordStep st short s done = .next (raiseError short st s)) ∨
    ∃ c rest, s.input.ahead = c :: rest ∧
      ((hexval c = none ∧ wordStep st short s done = .next (raiseError .conversion st (takeByte rest s))) ∨
        ∃ n, hexval c = some n ∧
          ((s.k ≠ 7 ∧ wordStep st short s done =
              .next { takeByte rest s with acc := (s.acc <<< 4) ||| n.setWidth 32, k := s.k + 1 }) ∨
            (s.k = 7 ∧ wordStep st short s done = done ((s.acc <<< 4) ||| n.setWidth 32)
              { takeByte rest s with acc := (s.acc <<< 4) ||| n.setWidth 32, k := s.k + 1 }))) := by
  unfold wordStep
  rcases readNibble_cases st short s _ with h | h | ⟨c, rest, ha, ⟨hv, hr⟩ | ⟨n, hv, hr⟩⟩
  · exact .inl h
  · exact .inr (.inl h)
  · exact .inr (.inr ⟨c, rest, ha, .inl ⟨hv, hr⟩⟩)
  · refine .inr (.inr ⟨c, rest, ha, .inr ⟨n, hv, ?_⟩⟩)
    rw [hr]
    by_cases hk : s.k = 7
    · exact .inr ⟨hk, by simp [hk]⟩
    · exact .inl ⟨hk, by simp [hk]⟩

/-- One byte of a marker. -/
theorem markerStep_cases (st : SeqState) (marker : List Byte) (s : State) (onEos done : State → Out) :
    (s.input.ahead = [] ∧ s.input.ended = false ∧ markerStep st marker s onEos done = .next s) ∨
    (s.input.ahead = [] ∧ s.input.ended = true ∧ markerStep st marker s onEos done = onEos s) ∨
    ∃ c rest, s.input.ahead = c :: rest ∧
      ((marker[s.k]? ≠ some c ∧
          markerStep st marker s onEos done = .next (raiseError .frameFormat st (takeByte rest s))) ∨
        (marker[s.k]? = some c ∧ s.k ≠ 4 ∧
          markerStep st marker s onEos done = .next { takeByte rest s with k := s.k + 1 }) ∨
        (marker[s.k]? = some c ∧ s.k = 4 ∧
          markerStep st marker s onEos done = done { takeByte rest s with k := s.k + 1 })) := by
  rcases inRead_cases s with ⟨h, he, hr⟩ | ⟨h, he, hr⟩ | ⟨c, rest, h, hr⟩
  · exact .inl ⟨h, he, by simp [markerStep, hr]⟩
  · exact .inr (.inl ⟨h, he, by simp [markerStep, hr]⟩)
  · refine .inr (.inr ⟨c, rest, h, ?_⟩)
    by_cases hm : marker[s.k]? = some c
    · by_cases hk : s.k = 4
      · exact .inr (.inr ⟨hm, hk, by unfold markerStep; rw [hr]; exact (if_pos hm).trans (if_pos hk)⟩)
      · exact .inr (.inl ⟨hm, hk, by unfold markerStep; rw [hr]; exact (if_pos hm).trans (if_neg hk)⟩)
    · exact .inl ⟨hm, by unfold markerStep; rw [hr]; exact if_neg hm⟩

/-! ## BUF -/

theorem withDataLength_of_le {s : State} (h : s.fdlen.toNat ≤ Config.bufSize) (f : Nat → Out) :
    withDataLength s f = f s.fdlen.toNat := by simp [withDataLength, h]

theorem storePair_of_lt {s : State} (h : s.wi < Config.bufSize) (b : Byte) (f : State → Out) :
    storePair b s f = f { s with buf := s.buf.write s.wi b, wi := s.wi + 1 } := by simp [storePair, h]

/-- A rule over the payload answers only for a legal length. -/
theorem withDataLength_cases (s : State) (f : Nat → Out) :
    (s.fdlen.toNat ≤ Config.bufSize ∧ withDataLength s f = f s.fdlen.toNat) ∨
    (Config.bufSize < s.fdlen.toNat ∧ withDataLength s f = .fault (.bufIndex s.fdlen.toNat)) := by
  by_cases h : s.fdlen.toNat ≤ Config.bufSize
  · exact .inl ⟨h, withDataLength_of_le h f⟩
  · exact .inr ⟨by omega, by simp [withDataLength, h]⟩

theorem le_roundup4 (n : Nat) : n ≤ roundup4 n := by unfold roundup4; omega

theorem roundup4_le {n : Nat} (h : n ≤ Config.bufSize) : roundup4 n ≤ Config.bufSize := by
  unfold roundup4 Config.bufSize at *; omega

@[simp] theorem roundup4_mod (n : Nat) : roundup4 n % 4 = 0 := by unfold roundup4; omega

theorem roundup4_of_mod {n : Nat} (h : n % 4 = 0) : roundup4 n = n := by unfold roundup4; omega

/-! ## The output port -/

/-- EMIT waits for the sink, or hands its record over. -/
theorem emitStep_of_some {s : State} {p : Snapshot} (h : s.pending = some p) (f : SnapKind → State → Out) :
    emitStep s f = if s.sinkReady then f p.kind (deliver p s) else .next s := by simp [emitStep, h]

/-- Verify passes on, or raises ChecksumError. -/
theorem compareCrc_cases (s : State) (f : State → Out) :
    (crcFinal s.crcreg = s.fcrc ∧ compareCrc s f = f s) ∨
    (crcFinal s.crcreg ≠ s.fcrc ∧ compareCrc s f = .next (raiseError .checksum .verify s)) := by
  by_cases h : crcFinal s.crcreg = s.fcrc
  · exact .inl ⟨h, by simp [compareCrc, h]⟩
  · exact .inr ⟨h, by simp [compareCrc, h]⟩

/-! ## Reset -/

@[simp] theorem resetBlock_resetBlock (s : State) : resetBlock (resetBlock s) = resetBlock s := rfl

/-! ## Commands and steps -/

/-- The step of a running command is its meaning. -/
theorem blockStep_of_busy {s : State} {i : Instr} (hb : s.status.busy = true) (hd : decode s.cur = .ok i) :
    blockStep s = exec i s := by simp [blockStep, runWord, hb, hd]

/-- An idle block does nothing. -/
theorem blockStep_of_idle {s : State} (hb : s.status.busy = false) : blockStep s = .next s := by
  simp [blockStep, hb]

theorem step_of_nil {s : State} (h : s.env = []) : step s = blockStep s := by simp [step, h]

theorem step_of_cons {s : State} {act : EnvAct} {rest : List EnvAct} (h : s.env = act :: rest) :
    step s = envStep act rest s := by simp [step, h]

theorem blockRun_succ {s t : State} (n : Nat) (h : blockStep s = .next t) : blockRun (n + 1) s = blockRun n t := by
  simp [blockRun, h]

/-- Runs of block steps compose. -/
theorem blockRun_add {s t : State} {m : Nat} (n : Nat) (h : blockRun m s = .next t) :
    blockRun (m + n) s = blockRun n t := by
  induction m generalizing s with
  | zero => simp only [blockRun, Host.Outcome.next.injEq] at h; simp [h]
  | succ m ih =>
    rw [show m + 1 + n = (m + n) + 1 by omega]
    simp only [blockRun] at h ⊢
    split at h <;> simp_all

/-- What a host write of CMD does: ignored under `rst`, accepted, or dropped. -/
theorem writeCmd_cases (w : Word) (s : State) :
    (s.rst = true ∧ writeCmd w s = .next s) ∨
    (s.rst = false ∧ accepts s.status w = true ∧ writeCmd w s = runAccepted w s) ∨
    (s.rst = false ∧ accepts s.status w = false ∧ writeCmd w s = .next { s with status := s.status.dropped }) := by
  unfold writeCmd
  cases s.rst <;> cases accepts s.status w <;> simp

end Sys2Proof.Machine
end

