-- ==== Sys2Proof/Laws/PerInstr.lean ====
section
/-!
SUPPORT. What holds of every command as syntax, one lemma per constructor: its word has the fixed bits of its row of
the opcode table (30_encoding.md R91, R93).
-/

namespace Sys2Proof.Laws

/-- The fixed bits of a command's row. -/
def rowMask : Instr → Word
  | .nop => 0xFFFFFFFF#32
  | .clear => 0xFFFFFFFF#32
  | .sreset => 0xFFFFFFFF#32
  | .hexDpair _ _ => 0xFFFF0000#32
  | .hexEpair _ => 0xFFFFFF00#32
  | .hexDstr _ _ => 0xFF00FC00#32
  | .crcInit => 0xFFFFFFFF#32
  | .crcByte _ => 0xFFFFFF00#32
  | .crcFinal => 0xFFFFFFFF#32
  | .crcBuf => 0xFFFFFFFF#32
  | .frmDecode => 0xFFFFFFFF#32
  | .frmMaskrd => 0xFFFFFFFF#32
  | .xfVerify => 0xFFFFFFFF#32
  | .xfPad => 0xFFFFFFFF#32
  | .xfMask => 0xFFFFFFFF#32
  | .xfRecomp => 0xFFFFFFFF#32
  | .frmOne => 0xFFFFFFFF#32
  | .frmRun => 0xFFFFFFFF#32

/-- The values of the fixed bits of a command's row. -/
def rowMatch : Instr → Word
  | .nop => 0x00000000#32
  | .clear => 0x01000000#32
  | .sreset => 0x02000000#32
  | .hexDpair _ _ => 0x10000000#32
  | .hexEpair _ => 0x11000000#32
  | .hexDstr _ _ => 0x12000000#32
  | .crcInit => 0x20000000#32
  | .crcByte _ => 0x21000000#32
  | .crcFinal => 0x22000000#32
  | .crcBuf => 0x23000000#32
  | .frmDecode => 0x30000000#32
  | .frmMaskrd => 0x31000000#32
  | .xfVerify => 0x40000000#32
  | .xfPad => 0x41000000#32
  | .xfMask => 0x42000000#32
  | .xfRecomp => 0x43000000#32
  | .frmOne => 0x50000000#32
  | .frmRun => 0x51000000#32

/-- The word of a command has the fixed bits of its row. -/
def EncodeRow.Statement (i : Instr) : Prop := encode i &&& rowMask i = rowMatch i

theorem EncodeRow.nop : EncodeRow.Statement .nop := rfl

theorem EncodeRow.clear : EncodeRow.Statement .clear := rfl

theorem EncodeRow.sreset : EncodeRow.Statement .sreset := rfl

theorem EncodeRow.hexDpair (chi clo : Byte) : EncodeRow.Statement (.hexDpair chi clo) := by
  refine BitVec.eq_of_getLsbD_eq fun i hi => ?_
  simp only [encode, rowMask, rowMatch, BitVec.getLsbD_and, BitVec.getLsbD_append]
  interval_cases i <;> simp +decide

theorem EncodeRow.hexEpair (imm : Byte) : EncodeRow.Statement (.hexEpair imm) := by
  refine BitVec.eq_of_getLsbD_eq fun i hi => ?_
  simp only [encode, rowMask, rowMatch, BitVec.getLsbD_and, BitVec.getLsbD_append]
  interval_cases i <;> simp +decide

theorem EncodeRow.hexDstr (len : BitVec 10) (cap : Byte) : EncodeRow.Statement (.hexDstr len cap) := by
  refine BitVec.eq_of_getLsbD_eq fun i hi => ?_
  simp only [encode, rowMask, rowMatch, BitVec.getLsbD_and, BitVec.getLsbD_append]
  interval_cases i <;> simp +decide

theorem EncodeRow.crcInit : EncodeRow.Statement .crcInit := rfl

theorem EncodeRow.crcByte (imm : Byte) : EncodeRow.Statement (.crcByte imm) := by
  refine BitVec.eq_of_getLsbD_eq fun i hi => ?_
  simp only [encode, rowMask, rowMatch, BitVec.getLsbD_and, BitVec.getLsbD_append]
  interval_cases i <;> simp +decide

theorem EncodeRow.crcFinal : EncodeRow.Statement .crcFinal := rfl

theorem EncodeRow.crcBuf : EncodeRow.Statement .crcBuf := rfl

theorem EncodeRow.frmDecode : EncodeRow.Statement .frmDecode := rfl

theorem EncodeRow.frmMaskrd : EncodeRow.Statement .frmMaskrd := rfl

theorem EncodeRow.xfVerify : EncodeRow.Statement .xfVerify := rfl

theorem EncodeRow.xfPad : EncodeRow.Statement .xfPad := rfl

theorem EncodeRow.xfMask : EncodeRow.Statement .xfMask := rfl

theorem EncodeRow.xfRecomp : EncodeRow.Statement .xfRecomp := rfl

theorem EncodeRow.frmOne : EncodeRow.Statement .frmOne := rfl

theorem EncodeRow.frmRun : EncodeRow.Statement .frmRun := rfl

end Sys2Proof.Laws
end

