-- ==== Sys2Proof/Tests/Slice0.lean ====
section
/-!
SUPPORT. The model's own tests: decoding of words written out from the formats, the smoke test of WellFormed, one step
of each command on a small state with results from 95_test_vectors.md, and for every obligation with hypotheses a state
and operands that meet them.
-/

namespace Sys2Proof.Tests

open Sys2Proof Sys2Proof.Machine

/-! ## Helpers -/

/-- One field of a next state. -/
def field {α : Type} (f : State → α) (o : Out) : Option α :=
  match o with
  | .next t => some (f t)
  | .fault _ => none
  | .refused _ => none

/-- The idle block after reset with the environment about to act. -/
def idle (env : List EnvAct) : State := { State.reset with env := env }

/-- The block with a ChecksumError latched (95_test_vectors.md, L1-8b). -/
def failed (env : List EnvAct) : State :=
  { State.reset with
    env := env, errcode := some .checksum,
    status := { busy := false, done := false, err := true, eosf := false, ovr := true, errstate := .verify } }

/-- The block running the command of a word, in a sequencer state, with input ahead. -/
def running (w : Word) (st : SeqState) (ahead : List Byte) (ended : Bool) : State :=
  { State.reset with
    cur := w, seq := st, input := { ahead := ahead, ended := ended, pos := 0 }, sinkReady := true,
    status := { busy := true, done := false, err := false, eosf := false, ovr := false, errstate := .idle } }

/-- BUF with the bytes 31 32 33 34 35 written. -/
def buf12345 : Memory := [(0, 0x31#8), (1, 0x32#8), (2, 0x33#8), (3, 0x34#8), (4, 0x35#8)]

/-- A block whose payload is "12345". -/
def loaded : State := { State.reset with buf := buf12345, fdlen := 5#8, fcrc := 0xCBF53A1C#32 }

/-- A block whose payload is "12345" padded, with MASK 0x0F0F0F0F. -/
def padded : State :=
  { State.reset with
    buf := [(0, 0x31#8), (1, 0x32#8), (2, 0x33#8), (3, 0x34#8), (4, 0x35#8), (5, 0x00#8), (6, 0x00#8), (7, 0x00#8)],
    fdlen := 8#8, mask := 0x0F0F0F0F#32 }

/-- frame1 of 95_test_vectors.md, section 2.5, as a unit. -/
def unit1 : FrameUnit :=
  { type := 0x01#8, data := [0x31#8, 0x32#8, 0x33#8, 0x34#8, 0x35#8], mask := 0x0F0F0F0F#32 }

/-- The frame part of frame1's text. -/
def frame1 : List Byte := asciiBytes "mess=01093132333435CBF53A1C"

/-- The mask part of frame1's text. -/
def mask1 : List Byte := asciiBytes "mask=0F0F0F0F"

/-! ## WellFormed -/

/-- 95_test_vectors.md, section 2.1: CAP = 253 is illegal. -/
theorem test_wellFormed_refuses_cap_253 : (Instr.hexDstr 8#10 253#8).wellFormed = false := by decide

theorem test_wellFormed_admits_cap_252 : (Instr.hexDstr 504#10 252#8).wellFormed = true := by decide

/-! ## Decoding, one word of each row written out from 30_encoding.md R91 and R93 -/

theorem test_decode_nop : decodeTableWord 32 0b00000000_000000000000000000000000 = some (.nop) := by decide
theorem test_decode_clear : decodeTableWord 32 0b00000001_000000000000000000000000 = some (.clear) := by decide
theorem test_decode_sreset : decodeTableWord 32 0b00000010_000000000000000000000000 = some (.sreset) := by decide
theorem test_decode_hexDpair : decodeTableWord 32 0b00010000_00000000_00110100_00110001 = some (.hexDpair 0x34#8 0x31#8) := by decide
theorem test_decode_hexEpair : decodeTableWord 32 0b00010001_0000000000000000_10100101 = some (.hexEpair 0xA5#8) := by decide
theorem test_decode_hexDstr : decodeTableWord 32 0b00010010_00000100_000000_0000001000 = some (.hexDstr 8#10 4#8) := by decide
theorem test_decode_crcInit : decodeTableWord 32 0b00100000_000000000000000000000000 = some (.crcInit) := by decide
theorem test_decode_crcByte : decodeTableWord 32 0b00100001_0000000000000000_01100001 = some (.crcByte 0x61#8) := by decide
theorem test_decode_crcFinal : decodeTableWord 32 0b00100010_000000000000000000000000 = some (.crcFinal) := by decide
theorem test_decode_crcBuf : decodeTableWord 32 0b00100011_000000000000000000000000 = some (.crcBuf) := by decide
theorem test_decode_frmDecode : decodeTableWord 32 0b00110000_000000000000000000000000 = some (.frmDecode) := by decide
theorem test_decode_frmMaskrd : decodeTableWord 32 0b00110001_000000000000000000000000 = some (.frmMaskrd) := by decide
theorem test_decode_xfVerify : decodeTableWord 32 0b01000000_000000000000000000000000 = some (.xfVerify) := by decide
theorem test_decode_xfPad : decodeTableWord 32 0b01000001_000000000000000000000000 = some (.xfPad) := by decide
theorem test_decode_xfMask : decodeTableWord 32 0b01000010_000000000000000000000000 = some (.xfMask) := by decide
theorem test_decode_xfRecomp : decodeTableWord 32 0b01000011_000000000000000000000000 = some (.xfRecomp) := by decide
theorem test_decode_frmOne : decodeTableWord 32 0b01010000_000000000000000000000000 = some (.frmOne) := by decide
theorem test_decode_frmRun : decodeTableWord 32 0b01010001_000000000000000000000000 = some (.frmRun) := by decide

/-- 95_test_vectors.md, sections 2.1, 2.2 and 2.6: words that select no command. -/
theorem test_decode_refuses_illegal_words :
    [0x10013431, 0x11000100, 0x12FD0008, 0x12040408, 0x20000001, 0x21010000, 0x00000001, 0x03000000, 0xFF000000].map
      (decodeTableWord 32) = List.replicate 9 none := by decide

/-! ## One step of each command -/

/-- 95_test_vectors.md, section 2.6: STATUS after NOP from reset. -/
theorem test_nop : field (·.status.word) (step (idle [.write 0x00#8 0x00000000#32])) = some 0x00000002#32 := by decide

/-- 95_test_vectors.md, section 2.6: CLEAR with an error latched and OVR set. -/
theorem test_clear :
    field (fun t => (t.status.word, t.errcode)) (step (failed [.write 0x00#8 0x01000000#32])) = some (0x00000002#32, none) := by
  decide

/-- 95_test_vectors.md, section 2.6: ABORT of a running FRM.RUN. -/
theorem test_sreset :
    field (fun t => (t.status.word, t.seq))
      (step { running 0x51000000#32 .len [] false with env := [.write 0x00#8 0x02000000#32] }) =
      some (0x00000000#32, .idle) := by
  decide

/-- 95_test_vectors.md, section 2.1: both cases of digits. -/
theorem test_hexDpair : field (·.result) (step (idle [.write 0x00#8 0x10006646#32])) = some 0x000000FF#32 := by decide

/-- 95_test_vectors.md, section 2.1: '@' precedes 'A' and 'G' follows 'F'. -/
theorem test_hexDpair_error :
    field (fun t => (t.status.word, t.errcode)) (step (idle [.write 0x00#8 0x10004047#32])) =
      some (0x00000E04#32, some .conversion) := by
  decide

/-- 95_test_vectors.md, section 2.1. -/
theorem test_hexEpair : field (·.result) (step (idle [.write 0x00#8 0x110000A5#32])) = some 0x00004135#32 := by decide

/-- 95_test_vectors.md, section 2.1: an odd length is checked before the capacity. -/
theorem test_hexDstr_odd :
    field (fun t => (t.status.word, t.errcode)) (step (idle [.write 0x00#8 0x12020009#32])) =
      some (0x00000E04#32, some .invalidLength) := by
  decide

/-- 41_hex_codec.md R117: the last character of "DE" ends HEX.DSTR 2, 1 with one byte in BUF. -/
theorem test_hexDstr_last :
    field (fun t => (t.buf, t.result, t.status.word))
      (step { running 0x12010002#32 .hexstr [0x45#8] false with k := 1, hi := 0xD#4, wi := 0 }) =
      some ([(0, 0xDE#8)], 1#32, 0x00000002#32) := by
  decide

/-- 95_test_vectors.md, section 2.2. -/
theorem test_crcInit :
    field (·.crcreg) (step { idle [.write 0x00#8 0x20000000#32] with crcreg := 0x12345678#32 }) =
      some 0xFFFFFFFF#32 := by
  decide

/-- 95_test_vectors.md, section 2.2. -/
theorem test_crcByte : field (·.crcreg) (step (idle [.write 0x00#8 0x21000061#32])) = some 0x3D8212E8#32 := by
  decide +kernel

/-- 42_crc32.md R130's first entries, and 95_test_vectors.md, section 2.2. -/
theorem test_fwd :
    [0x00#8, 0x01#8, 0x02#8, 0x03#8, 0x80#8, 0xFF#8].map fwd =
      [0x00000000#32, 0x04C11DB7#32, 0x09823B6E#32, 0x0D4326D9#32, 0x690CE0EE#32, 0xB1F740B4#32] := by
  decide +kernel

/-- 95_test_vectors.md, section 2.2. -/
theorem test_crcFinal :
    field (·.result) (step { idle [.write 0x00#8 0x22000000#32] with crcreg := 0x3D8212E8#32 }) =
      some 0xE8B7BE43#32 := by
  decide +kernel

/-- 95_test_vectors.md, section 2.2. -/
theorem test_crcBuf :
    field (fun t => (t.result, t.crcreg)) (exec .crcBuf loaded) = some (0xCBF53A1C#32, 0xC7A3502C#32) := by
  decide +kernel

/-- 95_test_vectors.md, section 2.3: an immediate end-of-input. -/
theorem test_frmDecode_end_of_input :
    field (fun t => (t.status.word, t.result)) (step (running 0x30000000#32 .hdr [] true)) =
      some (0x0000000A#32, 0x00000000#32) := by
  decide

/-- 95_test_vectors.md, section 2.3: "mess=0103" fails at its last character with FPLEN written and FDLEN kept. -/
theorem test_frmDecode_length_below_four :
    field (fun t => (t.status.word, t.fplen, t.fdlen))
      (step { running 0x30000000#32 .len [0x33#8] false with k := 1, hi := 0x0#4, fdlen := 8#8 }) =
      some (0x00000304#32, 0x03#8, 8#8) := by
  decide

/-- 95_test_vectors.md, section 2.3: "mess=" fails at 'e' in the mask marker. -/
theorem test_frmMaskrd_marker :
    field (fun t => (t.status.word, t.errcode))
      (step { running 0x31000000#32 .mhdr [0x65#8] false with k := 1 }) =
      some (0x00000604#32, some .frameFormat) := by
  decide

/-- 95_test_vectors.md, section 2.3: the last digit of "mask=FFFF0000". -/
theorem test_frmMaskrd_value :
    field (fun t => (t.status.word, t.mask, t.result))
      (step { running 0x31000000#32 .mval [0x30#8] false with k := 7, acc := 0x0FFFF000#32 }) =
      some (0x00000002#32, 0xFFFF0000#32, 0xFFFF0000#32) := by
  decide

/-- 95_test_vectors.md, section 2.4: a verify that passes. -/
theorem test_xfVerify :
    field (fun t => (t.status.word, t.result)) (exec .xfVerify loaded) = some (0x00000002#32, 0xCBF53A1C#32) := by
  decide +kernel

/-- 95_test_vectors.md, section 2.4: a verify that fails, RESULT holding the computed CRC. -/
theorem test_xfVerify_mismatch :
    field (fun t => (t.status.word, t.errcode, t.result)) (exec .xfVerify { State.reset with fcrc := 1#32 }) =
      some (0x00000804#32, some .checksum, 0x00000000#32) := by
  decide +kernel

/-- 95_test_vectors.md, section 2.4. -/
theorem test_xfPad :
    field (fun t => (t.buf, t.fdlen, t.result)) (exec .xfPad loaded) = some (padded.buf, 8#8, 8#32) := by decide

/-- 95_test_vectors.md, section 2.4: 251 bytes pad to 252. -/
theorem test_xfPad_251 :
    field (fun t => (t.buf, t.fdlen, t.result)) (exec .xfPad { State.reset with fdlen := 251#8 }) =
      some ([(251, 0x00#8)], 252#8, 252#32) := by
  decide

/-- 95_test_vectors.md, section 2.4. -/
theorem test_xfMask :
    field (fun t => (t.buf.readWord 0, t.buf.readWord 4, t.result)) (exec .xfMask padded) =
      some (0x31323334#32, 0x05000000#32, 1#32) := by
  decide

/-- 95_test_vectors.md, section 2.4. -/
theorem test_xfRecomp :
    field (fun t => (t.fcrc, t.crcreg, t.result))
      (exec .xfRecomp { padded with buf := padded.buf.write 4 0x05#8 }) =
      some (0xF228A386#32, 0x9E3AEBB0#32, 0xF228A386#32) := by
  decide +kernel

/-- 45_pipeline.md R210 and 95_test_vectors.md, section 2.5: the sink accepts the record of an empty payload, and
FRM.ONE finishes. -/
theorem test_frmOne_post :
    field (fun t => (t.status.word, t.result, t.frames, t.delivered.length))
      (step { running 0x50000000#32 .emit [] false with
        pending := some { kind := .post, type := 7#8, payloadLength := 4#8, dataLength := 0#8, crc32 := 0#32, data := [] } }) =
      some (0x00000002#32, 1#32, 1#32, 1) := by
  decide

/-- 95_test_vectors.md, section 2.5: a frame that fails Verify gives no record. -/
theorem test_frmOne_verify_fails :
    field (fun t => (t.status.word, t.pending)) (step { running 0x50000000#32 .verify [] false with fcrc := 1#32 }) =
      some (0x00000804#32, none) := by
  decide +kernel

/-- 95_test_vectors.md, section 2.5: end-of-input between frames. -/
theorem test_frmRun_end_of_input :
    field (fun t => (t.status.word, t.result)) (step { running 0x51000000#32 .hdr [] true with nf := 2#32 }) =
      some (0x0000000A#32, 2#32) := by
  decide

/-- 95_test_vectors.md, section 2.5: a trailing line end is a header error. -/
theorem test_frmRun_line_end :
    field (fun t => (t.status.word, t.incnt)) (step (running 0x51000000#32 .hdr [0x0A#8] false)) =
      some (0x00000104#32, 1#32) := by
  decide

/-! ## The register interface -/

/-- 95_test_vectors.md, section 2.6: words dropped while BUSY and while an error is latched. -/
theorem test_dropped_words :
    field (·.status.word) (step { running 0x51000000#32 .len [] false with env := [.write 0x00#8 0x02000001#32] }) =
        some 0x00000011#32 ∧
      field (·.status.word) (step { failed [.write 0x00#8 0x01000001#32] with status := { (failed []).status with ovr := false } }) =
        some 0x00000814#32 := by
  decide

/-- 95_test_vectors.md, section 2.6: FDLEN takes its low byte, when that is at most 252. -/
theorem test_write_fdlen :
    field (·.fdlen) (step (idle [.write 0x07#8 0x000001FC#32])) = some 252#8 ∧
      field (·.fdlen) (step (idle [.write 0x07#8 253#32])) = some 0#8 := by
  decide

/-- 10_state.md R36: BUFW windows are big-endian, and reads of them give the word back. -/
theorem test_bufw :
    field (·.buf) (step (idle [.write 0x7E#8 0x31323334#32])) =
        some [(248, 0x31#8), (249, 0x32#8), (250, 0x33#8), (251, 0x34#8)] ∧
      field (fun t => t.reads.map HostRead.value) (step { padded with env := [.read 0x40#8] }) = some [0x31323334#32] := by
  decide

/-- A word placed by `withFetchWord` runs as the first instruction after reset. -/
theorem test_fetch_runs :
    field (·.result) (step (State.reset.withFetchWord 32 0x110000A5)) = some 0x00004135#32 := by decide

/-- frame1 of 95_test_vectors.md, section 2.5: its CRC and its POST record. -/
theorem test_frame1_records :
    crc32 unit1.data = 0xCBF53A1C#32 ∧
      unit1.postRecord =
        { kind := .post, type := 1#8, payloadLength := 9#8, dataLength := 8#8, crc32 := 0xF228A386#32,
          data := [0x31#8, 0x32#8, 0x33#8, 0x34#8, 0x05#8, 0x00#8, 0x00#8, 0x00#8] } := by
  decide +kernel

/-! ## States that meet the hypotheses of the obligations -/

theorem idle_inv (env : List EnvAct) : (idle env).Inv := by
  simp [State.Inv, Memory.wf, State.flagsInv, State.stageInv, State.sequencerInv, idle, State.reset, Status.zero]

theorem failed_inv (env : List EnvAct) : (failed env).Inv := by
  simp [State.Inv, Memory.wf, State.flagsInv, State.stageInv, State.sequencerInv, failed, State.reset]

/-- `rst` asserted on a reset block. -/
theorem held_inv (env : List EnvAct) : { idle env with rst := true }.Inv := by
  simp [State.Inv, Memory.wf, State.flagsInv, State.stageInv, State.sequencerInv, idle, State.reset, Status.zero, resetBlock]

/-- FRM.RUN about to read a header. -/
theorem running_hdr_inv (ahead : List Byte) (ended : Bool) : (running 0x51000000#32 .hdr ahead ended).Inv := by
  have h : decode 0x51000000#32 = .ok .frmRun := rfl
  simp [State.Inv, Memory.wf, State.flagsInv, State.stageInv, State.sequencerInv, running, State.reset, h, standsIn]

/-- FRM.RUN with the POST record of an empty payload waiting for the sink. -/
def emitting : State :=
  { running 0x51000000#32 .emit [] true with
    fplen := 4#8,
    pending := some
      { kind := .post, type := 0#8, payloadLength := 4#8, dataLength := 0#8, crc32 := 0#32, data := [] } }

theorem emitting_inv : emitting.Inv := by
  have h : decode 0x51000000#32 = .ok .frmRun := rfl
  simp [State.Inv, Memory.wf, State.flagsInv, State.stageInv, State.sequencerInv, emitting, running, State.reset, h, standsIn]

theorem witness_DecodeOfEncodeIsTheCommand : (Instr.hexDstr 1023#10 252#8).wellFormed = true := by decide

theorem witness_EncodeOfDecodeIsTheWord : decode 0x12FC03FF#32 = .ok (.hexDstr 1023#10 252#8) := by rfl

theorem witness_StepRunsTheAcceptedCommand :
    ((idle [.write 0x00#8 0x02000000#32]).env = .write 0x00#8 0x02000000#32 :: [] ∧
      (idle [.write 0x00#8 0x02000000#32]).rst = false) ∧
    ((idle [.write 0x00#8 0x110000A5#32]).env = .write 0x00#8 0x110000A5#32 :: [] ∧
      (idle [.write 0x00#8 0x110000A5#32]).rst = false ∧ (0x110000A5#32 : Word) ≠ 0x02000000#32 ∧
      (idle [.write 0x00#8 0x110000A5#32]).status.busy = false ∧
      (idle [.write 0x00#8 0x110000A5#32]).status.err = false ∧ decode 0x110000A5#32 = .ok (.hexEpair 0xA5#8)) ∧
    ((failed [.write 0x00#8 0x01000000#32]).status.busy = false ∧ (failed [.write 0x00#8 0x01000000#32]).rst = false ∧
      (0x01000000#32 : Word) ≠ 0x02000000#32 ∧ decode 0x01000000#32 = .ok .clear) ∧
    decode 0xFF000000#32 = .error .unassignedOpcode :=
  ⟨⟨rfl, rfl⟩, ⟨rfl, rfl, by decide, rfl, rfl, rfl⟩, ⟨rfl, rfl, by decide, rfl⟩, rfl⟩

theorem witness_StepContinuesTheRunningCommand :
    (running 0x51000000#32 .hdr [] false).status.busy = true ∧
    decode (running 0x51000000#32 .hdr [] false).cur = .ok .frmRun ∧ (running 0x51000000#32 .hdr [] false).env = [] ∧
    { running 0x51000000#32 .hdr [] false with env := [.block] }.env = .block :: [] ∧
    { running 0x51000000#32 .hdr [] false with env := [.wait] }.env = .wait :: [] :=
  ⟨rfl, rfl, rfl, rfl, rfl⟩

theorem witness_DroppedWordOnlySetsOvr :
    ({ running 0x51000000#32 .hdr [] false with env := [.write 0x00#8 0x02000001#32] }.status.busy = true ∧
      { running 0x51000000#32 .hdr [] false with env := [.write 0x00#8 0x02000001#32] }.rst = false ∧
      (0x02000001#32 : Word) ≠ 0x02000000#32) ∧
    ((failed [.write 0x00#8 0x01000001#32]).status.err = true ∧ (failed [.write 0x00#8 0x01000001#32]).rst = false ∧
      (0x01000001#32 : Word) ≠ 0x01000000#32 ∧ (0x01000001#32 : Word) ≠ 0x02000000#32) ∧
    ((failed [.write 0x00#8 0x01000000#32]).Inv ∧ (failed [.write 0x00#8 0x01000000#32]).status.ovr = true ∧
      field (·.status.ovr) (step (failed [.write 0x00#8 0x01000000#32])) = some false) :=
  ⟨⟨rfl, rfl, by decide⟩, ⟨rfl, rfl, by decide, by decide⟩, failed_inv _, rfl, by decide⟩

theorem witness_IllegalCommandWritesOnlyStatusAndErrcode :
    (idle [.write 0x00#8 0x12FD0008#32]).env = .write 0x00#8 0x12FD0008#32 :: [] ∧
    (idle [.write 0x00#8 0x12FD0008#32]).rst = false ∧ (idle [.write 0x00#8 0x12FD0008#32]).status.busy = false ∧
    (idle [.write 0x00#8 0x12FD0008#32]).status.err = false ∧ decode 0x12FD0008#32 = .error .capTooLarge :=
  ⟨rfl, rfl, rfl, rfl, rfl⟩

theorem witness_NopOnlyFinishes :
    ((idle [.write 0x00#8 0x00000000#32]).env = .write 0x00#8 0x00000000#32 :: [] ∧
      (idle [.write 0x00#8 0x00000000#32]).rst = false ∧ (idle [.write 0x00#8 0x00000000#32]).status.busy = false ∧
      (idle [.write 0x00#8 0x00000000#32]).status.err = false) ∧
    ((idle [.write 0x00#8 0x00000001#32]).env = .write 0x00#8 0x00000001#32 :: [] ∧
      (idle [.write 0x00#8 0x00000001#32]).status.err = false) ∧
    (0x00000001#32 : Word).extractLsb' 24 8 = 0x00#8 ∧ (0x00000001#32 : Word) ≠ 0x00000000#32 ∧
    (failed [.write 0x00#8 0x00000000#32]).env = .write 0x00#8 0x00000000#32 :: [] ∧
    (failed [.write 0x00#8 0x00000000#32]).rst = false ∧ (failed [.write 0x00#8 0x00000000#32]).status.busy = false ∧
    (failed [.write 0x00#8 0x00000000#32]).status.err = true :=
  ⟨⟨rfl, rfl, rfl, rfl⟩, ⟨rfl, rfl⟩, by decide, by decide, rfl, rfl, rfl, rfl⟩

theorem witness_ClearOnlyClearsTheLatchedError :
    (failed [.write 0x00#8 0x01000000#32]).env = .write 0x00#8 0x01000000#32 :: [] ∧
    (failed [.write 0x00#8 0x01000000#32]).rst = false ∧ (failed [.write 0x00#8 0x01000000#32]).status.busy = false :=
  ⟨rfl, rfl, rfl⟩

theorem witness_SresetResetsAndLeavesBufAndPorts :
    { emitting with env := [.write 0x00#8 0x02000000#32] }.env = .write 0x00#8 0x02000000#32 :: [] ∧
    { emitting with env := [.write 0x00#8 0x02000000#32] }.rst = false :=
  ⟨rfl, rfl⟩

/-- Each range of digits and of other characters at its ends. -/
theorem witness_HexDigitsAndPairs :
    [0x30#8, 0x39#8, 0x41#8, 0x46#8, 0x61#8, 0x66#8].map hexval = [some 0#4, some 9#4, some 10#4, some 15#4, some 10#4, some 15#4] ∧
    [0x00#8, 0x2F#8, 0x3A#8, 0x40#8, 0x47#8, 0x60#8, 0x67#8, 0xFF#8].map hexval = List.replicate 8 none ∧
    [0#4, 9#4, 10#4, 15#4].map hexchar = [0x30#8, 0x39#8, 0x41#8, 0x46#8] := by
  decide

theorem witness_HexDpairDecodesAPair :
    hexval 0x34#8 = some 4#4 ∧ hexval 0x31#8 = some 1#4 ∧ hexval 0x40#8 = none ∧ hexval 0x47#8 = none := by decide

theorem witness_HexDstrChecksLengthThenCapacity :
    (running 0x12FC01F8#32 .exec [] false).seq = .exec ∧ (252#8 : Byte).toNat ≤ 252 ∧
    (505#10 : BitVec 10).toNat % 2 = 1 ∧ (506#10 : BitVec 10).toNat / 2 > (252#8 : Byte).toNat ∧
    (504#10 : BitVec 10).toNat / 2 = (252#8 : Byte).toNat := by
  decide

theorem witness_HexDstrStoresTheDecodedText :
    let s := running 0x12040008#32 .exec (asciiBytes "DEadBEef" ++ [0x2E#8]) false
    s.seq = .exec ∧ s.status.busy = true ∧ s.cur = encode (.hexDstr 8#10 4#8) ∧ (4#8 : Byte).toNat ≤ 252 ∧
    decodePairs (asciiBytes "DEadBEef") = some [0xDE#8, 0xAD#8, 0xBE#8, 0xEF#8] ∧
    (asciiBytes "DEadBEef").length = (8#10 : BitVec 10).toNat ∧ 4 ≤ (4#8 : Byte).toNat ∧
    s.input.ahead = asciiBytes "DEadBEef" ++ [0x2E#8] := by
  refine ⟨rfl, rfl, rfl, by decide, by decide, by decide, by decide, rfl⟩

theorem witness_EncodeThenDecodeIsTheIdentity :
    let data : List Byte := [0xDE#8, 0xAD#8]
    let s := running 0x12020004#32 .exec (encodePairs data ++ []) false
    data.length ≤ 252 ∧ s.seq = .exec ∧ s.status.busy = true ∧
    s.cur = encode (.hexDstr (BitVec.ofNat 10 (2 * data.length)) (BitVec.ofNat 8 data.length)) ∧
    s.input.ahead = encodePairs data ++ [] := by
  refine ⟨by decide, rfl, rfl, rfl, rfl⟩

theorem witness_CrcBufTakesTheCrcOfThePayload :
    loaded.fdlen.toNat ≤ 252 ∧ { loaded with fdlen := 252#8 }.fdlen.toNat ≤ 252 := by decide

theorem witness_CrcStrLeavesTheCrcOfItsBytes :
    let s := idle ((pseudoLines (.crcStr [0x31#8, 0x32#8])).flatMap lineActs)
    s.rst = false ∧ s.status.busy = false ∧ s.status.err = false ∧
    s.env = (pseudoLines (.crcStr [0x31#8, 0x32#8])).flatMap lineActs :=
  ⟨rfl, rfl, rfl, rfl⟩

theorem witness_FrameCommandsStartAtTheirMarker :
    ((running 0x51000000#32 .exec [] false).seq = .exec ∧
      ¬((running 0x51000000#32 .exec [] false).input.ahead = [] ∧ (running 0x51000000#32 .exec [] false).input.ended = true)) ∧
    ((running 0x51000000#32 .exec [] true).seq = .exec ∧ (running 0x51000000#32 .exec [] true).input.ahead = [] ∧
      (running 0x51000000#32 .exec [] true).input.ended = true) := by
  decide

theorem frame1_text : isFrameText 0x01#8 unit1.data 0xCBF53A1C#32 frame1 :=
  ⟨asciiBytes "01", asciiBytes "09", asciiBytes "3132333435", asciiBytes "CBF53A1C", by decide, by decide, by decide,
    by decide, by decide, by decide⟩

theorem mask1_text : isMaskText 0x0F0F0F0F#32 mask1 := ⟨asciiBytes "0F0F0F0F", by decide, by decide⟩

theorem unit1_text : isUnitText unit1 (frame1 ++ mask1) :=
  ⟨frame1, mask1, rfl, by rw [test_frame1_records.1]; exact frame1_text, mask1_text⟩

theorem witness_FrmDecodeReadsAFrame :
    let s := running 0x30000000#32 .exec (frame1 ++ mask1) false
    s.seq = .exec ∧ s.status.busy = true ∧ s.cur = encode .frmDecode ∧
    isFrameText 0x01#8 unit1.data 0xCBF53A1C#32 frame1 ∧ s.input.ahead = frame1 ++ mask1 :=
  ⟨rfl, rfl, rfl, frame1_text, rfl⟩

/-- The shortest and the longest data of a frame, 0 and 251 bytes. -/
theorem witness_FrmDecodeReadsAFrame_boundary :
    isFrameText 0x07#8 [] 0x00000000#32 (asciiBytes "mess=070400000000") ∧
    isFrameText 0x01#8 (List.replicate 251 0x5A#8) 0xAABBCCDD#32
      (asciiBytes "mess=01FF" ++ encodePairs (List.replicate 251 0x5A#8) ++ asciiBytes "AABBCCDD") :=
  ⟨⟨asciiBytes "07", asciiBytes "04", [], asciiBytes "00000000", by decide, by decide, by decide, by decide, by decide,
      by decide⟩,
    ⟨asciiBytes "01", asciiBytes "FF", encodePairs (List.replicate 251 0x5A#8), asciiBytes "AABBCCDD", by decide +kernel,
      by decide +kernel, by decide, by decide +kernel, by decide +kernel, by decide⟩⟩

theorem witness_FrmMaskrdReadsAMask :
    let s := running 0x31000000#32 .exec (mask1 ++ []) false
    s.seq = .exec ∧ s.status.busy = true ∧ s.cur = encode .frmMaskrd ∧ isMaskText 0x0F0F0F0F#32 mask1 ∧
    s.input.ahead = mask1 ++ [] :=
  ⟨rfl, rfl, rfl, mask1_text, rfl⟩

/-- A state for each group of commands, and the three answers of the port. -/
theorem witness_HexFieldsWaitOrFailAtTheFirstBadCharacter :
    (running 0x30000000#32 .type [] false).seq = .type ∧ (running 0x50000000#32 .payload [] false).seq = .payload ∧
    (running 0x31000000#32 .mval [] false).seq = .mval ∧ (running 0x12040008#32 .hexstr [] false).seq = .hexstr ∧
    (running 0x30000000#32 .type [] false).input = { ahead := [], ended := false, pos := 0 } ∧
    (running 0x30000000#32 .type [] true).input = { ahead := [], ended := true, pos := 0 } ∧
    (running 0x30000000#32 .type [0x47#8] true).input.ahead = 0x47#8 :: [] ∧ hexval 0x47#8 = none ∧
    (running 0x30000000#32 .type [0x46#8] true).input.ahead = 0x46#8 :: [] ∧ hexval 0x46#8 = some 15#4 ∧
    (running 0x30000000#32 .type [0x46#8] true).k % 2 = 0 ∧
    { running 0x31000000#32 .mval [0x46#8] true with k := 6 }.k < 7 := by
  decide

/-- The header and the mask marker at their first and last byte, and the port's answers. -/
theorem witness_MarkersFailAtTheFirstDifferentByte :
    ((running 0x51000000#32 .hdr [] false).seq = .hdr ∧ (running 0x51000000#32 .hdr [] false).k = 0) ∧
    ({ running 0x31000000#32 .mhdr [0x3D#8] true with k := 4 }.seq = .mhdr ∧
      { running 0x31000000#32 .mhdr [0x3D#8] true with k := 4 }.k < 5) ∧
    ([0x6D#8, 0x65#8, 0x73#8, 0x73#8, 0x3D#8] : List Byte)[0]? ≠ some 0x4D#8 ∧
    ([0x6D#8, 0x65#8, 0x73#8, 0x73#8, 0x3D#8] : List Byte)[3]? = some 0x73#8 ∧
    ([0x6D#8, 0x61#8, 0x73#8, 0x6B#8, 0x3D#8] : List Byte)[4]? = some 0x3D#8 ∧
    (running 0x51000000#32 .hdr [] true).input = { ahead := [], ended := true, pos := 0 } := by
  decide

/-- The byte 0x03 and the byte 0x04 as the last digit is read. -/
theorem witness_ReadLengthRejectsLengthsBelowFour :
    let s := { running 0x30000000#32 .len [0x33#8] false with k := 1 }
    s.seq = .len ∧ s.k = 1 ∧ s.input.ahead = 0x33#8 :: [] ∧ hexval 0x33#8 = some 3#4 ∧
    (0x03#8 : Byte) = s.hi ++ 3#4 ∧ (0x03#8 : Byte).toNat < 4 ∧ hexval 0x34#8 = some 4#4 ∧ (0x04#8 : Byte) = s.hi ++ 4#4 ∧
    4 ≤ (0x04#8 : Byte).toNat := by
  decide

theorem witness_VerifyComparesTheCrcWithFcrc :
    loaded.fdlen.toNat ≤ 252 ∧ crc32 (loaded.buf.bytes loaded.fdlen.toNat) = loaded.fcrc ∧
    crc32 ({ loaded with fcrc := 0#32 }.buf.bytes { loaded with fcrc := 0#32 }.fdlen.toNat) ≠ { loaded with fcrc := 0#32 }.fcrc ∧
    (running 0x50000000#32 .verify [] false).seq = .verify ∧ (running 0x50000000#32 .verify [] false).fdlen.toNat ≤ 252 := by
  decide +kernel

theorem witness_PadZeroFillsToAMultipleOfFour :
    { State.reset with fdlen := 252#8 }.fdlen.toNat ≤ 252 ∧ (running 0x51000000#32 .pad [] false).seq = .pad ∧
    (running 0x51000000#32 .pad [] false).fdlen.toNat ≤ 252 := by
  decide

theorem witness_MaskAndsEveryOtherWordFromTheSecond :
    { State.reset with fdlen := 252#8 }.fdlen.toNat ≤ 252 ∧ (running 0x51000000#32 .mask [] false).seq = .mask ∧
    (running 0x51000000#32 .mask [] false).fdlen.toNat ≤ 252 ∧ 1 % 2 = 1 ∧ 1 < padded.fdlen.toNat / 4 := by
  decide

theorem witness_RecomputeStoresTheCrcOfThePayload :
    { State.reset with fdlen := 252#8 }.fdlen.toNat ≤ 252 ∧ (running 0x51000000#32 .recomp [] false).seq = .recomp ∧
    (running 0x51000000#32 .recomp [] false).fdlen.toNat ≤ 252 := by
  decide

theorem witness_PadAndMaskAreIdempotent :
    loaded.fdlen.toNat ≤ 252 ∧ (∃ t, exec .xfPad loaded = .next t) ∧ padded.fdlen.toNat % 4 = 0 ∧
    (∃ t, exec .xfMask padded = .next t) :=
  ⟨by decide, ⟨_, rfl⟩, by decide, ⟨_, rfl⟩⟩

theorem witness_VerifyPassesAfterRecompute :
    loaded.fdlen.toNat ≤ 252 ∧ ∃ t, exec .xfRecomp loaded = .next t ∧
      (t.fdlen = t.fdlen ∧ t.fcrc = t.fcrc ∧ ∀ a, a < t.fdlen.toNat → t.buf.byteAt a = t.buf.byteAt a) :=
  ⟨by decide, _, rfl, rfl, rfl, fun _ _ => rfl⟩

theorem witness_EmitWaitsForTheSinkThenGoesOn :
    emitting.seq = .emit ∧ (∃ p, emitting.pending = some p ∧ p.kind = .post) ∧ emitting.sinkReady = true ∧
    { emitting with sinkReady := false }.sinkReady = false :=
  ⟨rfl, ⟨_, rfl, rfl⟩, rfl, rfl⟩

theorem witness_FrmOneTransformsOneFrame :
    let s := running 0x50000000#32 .exec (frame1 ++ mask1 ++ []) false
    s.seq = .exec ∧ s.status.busy = true ∧ s.cur = encode .frmOne ∧ s.sinkReady = true ∧
    isUnitText unit1 (frame1 ++ mask1) ∧ s.input.ahead = frame1 ++ mask1 ++ [] :=
  ⟨rfl, rfl, rfl, rfl, unit1_text, rfl⟩

theorem witness_FrmRunTransformsEveryFrameOfTheStream :
    let s := running 0x51000000#32 .exec ((frame1 ++ mask1) ++ ((frame1 ++ mask1) ++ [])) true
    s.seq = .exec ∧ s.status.busy = true ∧ s.cur = encode .frmRun ∧ s.sinkReady = true ∧
    areUnitTexts [unit1, unit1] ((frame1 ++ mask1) ++ ((frame1 ++ mask1) ++ [])) ∧
    s.input.ahead = (frame1 ++ mask1) ++ ((frame1 ++ mask1) ++ []) ∧ s.input.ended = true :=
  ⟨rfl, rfl, rfl, rfl, ⟨_, _, rfl, unit1_text, _, _, rfl, unit1_text, rfl⟩, rfl, rfl⟩

theorem witness_FrmRunDoesNotDependOnEarlierFrames :
    let s := running 0x51000000#32 .hdr (frame1 ++ mask1) true
    s.status.busy = true ∧ s.cur = encode .frmRun ∧ s.seq = .hdr ∧ s.k = 0 :=
  ⟨rfl, rfl, rfl, rfl⟩

theorem witness_ErrorEntryLatchesAKindAndAState :
    (idle [.write 0x00#8 0xFF000000#32]).Inv ∧ (idle [.write 0x00#8 0xFF000000#32]).status.err = false ∧
    field (·.status.err) (step (idle [.write 0x00#8 0xFF000000#32])) = some true :=
  ⟨idle_inv _, rfl, by decide⟩

theorem witness_LatchedErrorIsNotOverwritten :
    (failed [.write 0x00#8 0x00000000#32]).Inv ∧ (failed [.write 0x00#8 0x00000000#32]).status.err = true ∧
    field (·.status.err) (step (failed [.write 0x00#8 0x00000000#32])) = some true ∧
    (failed [.write 0x00#8 0x01000000#32]).Inv ∧
    field (·.status.err) (step (failed [.write 0x00#8 0x01000000#32])) = some false :=
  ⟨failed_inv _, rfl, by decide, failed_inv _, by decide⟩

/-- One state takes every clause, and each range of indices at its ends. -/
theorem witness_HostWritesStoreAsTheRegisterMapSays :
    (∀ index v, (idle [.write index v]).env = .write index v :: [] ∧ (idle [.write index v]).status.busy = false ∧
      (idle [.write index v]).rst = false) ∧
    ((252#32 : Word).extractLsb' 0 8).toNat ≤ 252 ∧ 252 < ((253#32 : Word).extractLsb' 0 8).toNat ∧
    (0x40 ≤ (0x40#8 : Byte).toNat ∧ (0x40#8 : Byte).toNat ≤ 0x7E) ∧ (0x40 ≤ (0x7E#8 : Byte).toNat ∧ (0x7E#8 : Byte).toNat ≤ 0x7E) ∧
    (1 ≤ (3#8 : Byte).toNat ∧ (3#8 : Byte).toNat ≤ 3) ∧ (0x0A ≤ (0x3F#8 : Byte).toNat ∧ (0x3F#8 : Byte).toNat ≤ 0x3F) ∧
    0x7F ≤ (0x7F#8 : Byte).toNat :=
  ⟨fun _ _ => ⟨rfl, rfl, rfl⟩, by decide, by decide, by decide, by decide, by decide, by decide, by decide⟩

theorem witness_HostReadsReturnTheRegisterMap (index : Byte) :
    (idle [.read index]).env = .read index :: [] ∧ (idle [.read index]).status.busy = false := ⟨rfl, rfl⟩

theorem witness_AccessesWhileBusyChangeNothing :
    let s := running 0x51000000#32 .hdr [] false
    s.status.busy = true ∧ { s with env := [.write 0x07#8 3#32] }.env = .write 0x07#8 3#32 :: [] ∧
    { s with env := [.read 0x01#8] }.env = .read 0x01#8 :: [] ∧ { s with env := [.read 0x00#8] }.env = .read 0x00#8 :: [] :=
  ⟨rfl, rfl, rfl, rfl⟩

theorem witness_RstResetsTheBlockAndHoldsIt :
    { emitting with env := [.rst true] }.env = .rst true :: [] ∧
    ({ idle [.write 0x00#8 0x00000000#32] with rst := true }.rst = true ∧
      { idle [.read 0x04#8] with rst := true }.env = .read 0x04#8 :: []) ∧
    { idle [.read 0x04#8] with rst := true }.Inv := by
  exact ⟨rfl, ⟨rfl, rfl⟩, held_inv _⟩

/-- `rst` driven released while it is released resets, notes/assumptions/20.md. -/
theorem test_rst_released_again :
    field (fun t => (t.status.busy, t.seq, t.pending)) (step { emitting with env := [.rst false] }) =
      some (false, .idle, none) := by
  decide

theorem witness_SresetHasTheEffectOfARstPulse : emitting.rst = false := rfl

theorem witness_EveryStepKeepsTheInvariant :
    emitting.Inv ∧ (∃ t, step emitting = .next t) ∧ (running 0x51000000#32 .hdr [0x6D#8] false).Inv ∧
    ∃ t, step (running 0x51000000#32 .hdr [0x6D#8] false) = .next t :=
  ⟨emitting_inv, ⟨_, rfl⟩, running_hdr_inv _ _, ⟨_, rfl⟩⟩

theorem witness_NoStepStopsFromTheInvariant : emitting.Inv := emitting_inv

theorem witness_EveryStepKeepsSnapshotsSound : emitting.SnapshotInv ∧ ∃ t, step emitting = .next t := by
  refine ⟨⟨emitting_inv, trivial, by simp [emitting, running, State.reset], ?_⟩, _, rfl⟩
  intro p hp
  obtain rfl : _ = p := Option.some.inj hp
  exact ⟨⟨rfl, by decide +kernel, by decide, by decide, by decide⟩, rfl⟩

/-- FRM.RUN goes from EMIT with the POST record back to the next header, both BUSY. -/
theorem witness_SequencerNeverGoesBackWithinAFrame :
    emitting.Inv ∧ emitting.status.busy = true ∧ emitting.pending.map Snapshot.kind = some .post ∧
    field (fun t => (t.status.busy, t.seq)) (blockStep emitting) = some (true, .hdr) :=
  ⟨emitting_inv, rfl, rfl, by decide⟩

theorem witness_BlockStepsTakeAtMostOneByte :
    (∃ t, blockStep (running 0x51000000#32 .hdr [0x6D#8] false) = .next t) ∧
    (running 0x51000000#32 .hdr [0x6D#8] false).Inv ∧ (idle []).status.busy = false :=
  ⟨⟨_, rfl⟩, running_hdr_inv _ _, rfl⟩

theorem witness_RegistersAreWrittenOnlyInTheirStages :
    emitting.Inv ∧ ∃ t, blockStep emitting = .next t := ⟨emitting_inv, _, rfl⟩

/-- Each of the three ends: nothing counted, a POST record counted, a reset. -/
theorem witness_FramesCountsAcceptedPostRecords :
    emitting.Inv ∧ field (·.frames) (step emitting) = some 1#32 ∧ (idle [.rst true]).Inv ∧
    field (·.frames) (step (idle [.rst true])) = some 0#32 ∧ field (·.frames) (step (idle [])) = some 0#32 :=
  ⟨emitting_inv, by decide, idle_inv _, by decide, by decide⟩

theorem witness_EndOfInputIsPermanentUntilANewStream :
    emitting.Inv ∧ (∃ t, step emitting = .next t) ∧ emitting.input.ahead = [] ∧ emitting.input.ended = true ∧
    ∀ rest, emitting.env ≠ .connect :: rest :=
  ⟨emitting_inv, ⟨_, rfl⟩, rfl, rfl, fun _ => nofun⟩

theorem witness_CommandsEndWhenThePortsCooperate :
    emitting.Inv ∧ emitting.input.ended = true ∧ emitting.sinkReady = true := ⟨emitting_inv, rfl, rfl⟩

end Sys2Proof.Tests
end

section
/-!
PROOFS. The decoder by format: a word is its fields put together again, and a word that decodes is the word its
command encodes to (30_encoding.md R90 to R95).
-/

namespace Sys2Proof

/-! ## A word and its fields -/

theorem eq_append_iff_extractLsb' {n m : Nat} {w : BitVec (n + m)} {a : BitVec n} {b : BitVec m} :
    w = a ++ b ↔ w.extractLsb' m n = a ∧ w.extractLsb' 0 m = b := by
  constructor
  · rintro rfl
    exact ⟨BitVec.extractLsb'_append_eq_left, BitVec.extractLsb'_append_eq_right⟩
  · rintro ⟨rfl, rfl⟩
    rw [BitVec.extractLsb'_append_extractLsb'_eq_extractLsb' (by omega), BitVec.extractLsb'_eq_self]

/-- A field of a field is a field. -/
theorem extractLsb'_extractLsb'_add {v a n b m : Nat} (x : BitVec v) (h : b + m ≤ n) :
    (x.extractLsb' a n).extractLsb' b m = x.extractLsb' (a + b) m := by
  ext i hi
  simp [show b + i < n by omega, Nat.add_assoc]

/-- An append as the spec writes it, `hi << m | lo`, in any width. -/
theorem setWidth_append_eq_or {n m : Nat} (v : Nat) (h : BitVec n) (l : BitVec m) :
    (h ++ l).setWidth v = (h.setWidth v <<< m) ||| l.setWidth v := by
  ext i hi
  by_cases hlow : i < m
  · simp [BitVec.getLsbD_append, hlow]
  · simp [BitVec.getLsbD_append, hlow, BitVec.getLsbD_of_ge l i (by omega)]

/-- The fields of format N (30_encoding.md R91). -/
theorem eq_formatN_word_iff {w : Word} {op : Byte} {r : BitVec 24} :
    w = op ++ r ↔ opField w = op ∧ w.extractLsb' 0 24 = r :=
  eq_append_iff_extractLsb' (n := 8) (m := 24)

/-- The fields of format B (30_encoding.md R91). -/
theorem eq_formatB_word_iff {w : Word} {op b : Byte} {r : BitVec 16} :
    w = op ++ r ++ b ↔ opField w = op ∧ w.extractLsb' 8 16 = r ∧ immField w = b := by
  rw [eq_append_iff_extractLsb' (n := 24) (m := 8), eq_append_iff_extractLsb' (n := 8) (m := 16)]
  simp [extractLsb'_extractLsb'_add, opField, immField, and_assoc]

/-- The fields of format P (30_encoding.md R91). -/
theorem eq_formatP_word_iff {w : Word} {op r chi clo : Byte} :
    w = op ++ r ++ chi ++ clo ↔
      opField w = op ∧ w.extractLsb' 16 8 = r ∧ chiField w = chi ∧ immField w = clo := by
  rw [eq_append_iff_extractLsb' (n := 24) (m := 8), eq_append_iff_extractLsb' (n := 16) (m := 8),
    eq_append_iff_extractLsb' (n := 8) (m := 8)]
  simp [extractLsb'_extractLsb'_add, opField, chiField, immField, and_assoc]

/-- The fields of format S (30_encoding.md R91). -/
theorem eq_formatS_word_iff {w : Word} {op cap : Byte} {r : BitVec 6} {len : BitVec 10} :
    w = op ++ cap ++ r ++ len ↔
      opField w = op ∧ capField w = cap ∧ w.extractLsb' 10 6 = r ∧ lenField w = len := by
  rw [eq_append_iff_extractLsb' (n := 22) (m := 10), eq_append_iff_extractLsb' (n := 16) (m := 6),
    eq_append_iff_extractLsb' (n := 8) (m := 8)]
  simp [extractLsb'_extractLsb'_add, opField, capField, lenField, and_assoc]

/-! ## The formats -/

theorem ifClear_eq_ok_iff {n : Nat} {r : BitVec n} {i j : Instr} : ifClear r i = .ok j ↔ r = 0 ∧ i = j := by
  unfold ifClear
  split
  case isTrue hr => simp [hr]
  case isFalse hr => exact ⟨nofun, fun ⟨h0, _⟩ => absurd h0 hr⟩

theorem formatN_eq_ok_iff {w : Word} {op : Byte} {i j : Instr} (hop : opField w = op) :
    formatN w i = .ok j ↔ w = op ++ 0#24 ∧ i = j := by
  simp [formatN, ifClear_eq_ok_iff, eq_formatN_word_iff, hop]

theorem formatB_eq_ok_iff {w : Word} {op : Byte} {f : Byte → Instr} {j : Instr} (hop : opField w = op) :
    formatB w f = .ok j ↔ ∃ b, w = op ++ 0#16 ++ b ∧ f b = j := by
  simp [formatB, ifClear_eq_ok_iff, eq_formatB_word_iff, hop, and_assoc]

theorem formatP_eq_ok_iff {w : Word} {op : Byte} {f : Byte → Byte → Instr} {j : Instr} (hop : opField w = op) :
    formatP w f = .ok j ↔ ∃ chi clo, w = op ++ 0#8 ++ chi ++ clo ∧ f chi clo = j := by
  simp [formatP, ifClear_eq_ok_iff, eq_formatP_word_iff, hop, and_assoc]

theorem formatS_eq_ok_iff {w : Word} {op : Byte} {f : BitVec 10 → Byte → Instr} {j : Instr} (hop : opField w = op) :
    formatS w f = .ok j ↔ ∃ len cap, cap.toNat ≤ Config.bufSize ∧ w = op ++ cap ++ 0#6 ++ len ∧ f len cap = j := by
  unfold formatS
  split
  case isTrue hcap =>
    refine ⟨nofun, fun ⟨len, cap, hle, hw, _⟩ => ?_⟩
    obtain ⟨-, rfl, -⟩ := eq_formatS_word_iff.mp hw
    omega
  case isFalse hcap => simp [ifClear_eq_ok_iff, eq_formatS_word_iff, hop, ← and_assoc, Nat.le_of_not_lt hcap]

/-! ## Decode, then encode -/

/-- OP as the decoder's match reads it. -/
theorem opField_eq_ofNat {w : Word} {n : Nat} (h : (opField w).toNat = n) : opField w = BitVec.ofNat 8 n := by
  rw [← h, BitVec.ofNat_toNat, BitVec.setWidth_eq]

/-- OP selects one row of the table, and the row's format gives the word back (30_encoding.md R93, R95). -/
theorem encode_of_decode {w : Word} {i : Instr} (h : decode w = .ok i) : encode i = w := by
  unfold decode at h
  split at h
  case h_19 => cases h
  case h_4 hop =>
    obtain ⟨chi, clo, rfl, rfl⟩ := (formatP_eq_ok_iff (opField_eq_ofNat hop)).mp h
    rfl
  case h_6 hop =>
    obtain ⟨len, cap, -, rfl, rfl⟩ := (formatS_eq_ok_iff (opField_eq_ofNat hop)).mp h
    rfl
  case h_5 hop | h_8 hop =>
    obtain ⟨b, rfl, rfl⟩ := (formatB_eq_ok_iff (opField_eq_ofNat hop)).mp h
    rfl
  all_goals
    rename_i hop
    obtain ⟨rfl, rfl⟩ := (formatN_eq_ok_iff (opField_eq_ofNat hop)).mp h
    rfl

end Sys2Proof
end

section
/-!
PROOFS. The hex codec: the digit functions, the pair decoder, HEX.DPAIR and HEX.EPAIR (41_hex_codec.md R110 to R116).
-/

namespace Sys2Proof

/-! ## The words of the pair commands -/

/-- The words of HEX.DPAIR (41_hex_codec.md R115). -/
theorem decode_eq_ok_hexDpair_iff {w : Word} {chi clo : Byte} :
    decode w = .ok (.hexDpair chi clo) ↔ w = 0x10#8 ++ 0#8 ++ chi ++ clo := by
  refine ⟨fun h => (encode_of_decode h).symm, fun h => ?_⟩
  have hop : opField w = 0x10#8 := (eq_formatP_word_iff.mp h).1
  have hrow : decode w = formatP w .hexDpair := by simp [decode, hop]
  exact hrow.trans ((formatP_eq_ok_iff hop).mpr ⟨chi, clo, h, rfl⟩)

/-- The words of HEX.EPAIR (41_hex_codec.md R116). -/
theorem decode_eq_ok_hexEpair_iff {w : Word} {imm : Byte} :
    decode w = .ok (.hexEpair imm) ↔ w = 0x11#8 ++ 0#16 ++ imm := by
  refine ⟨fun h => (encode_of_decode h).symm, fun h => ?_⟩
  have hop : opField w = 0x11#8 := (eq_formatB_word_iff.mp h).1
  have hrow : decode w = formatB w .hexEpair := by simp [decode, hop]
  exact hrow.trans ((formatB_eq_ok_iff hop).mpr ⟨imm, h, rfl⟩)

end Sys2Proof

namespace Sys2Proof.Machine

/-! ## Digits -/

/-- `hexval` on `0` to `9` (41_hex_codec.md R110). -/
theorem hexval_of_decimal {c : Byte} (hlo : 0x30 ≤ c.toNat) (hhi : c.toNat ≤ 0x39) :
    hexval c = some (BitVec.ofNat 4 (c.toNat - 0x30)) := by
  have hdec : 0x30#8 ≤ c ∧ c ≤ 0x39#8 := by bv_omega
  rw [hexval, if_pos hdec]
  exact congrArg some (by bv_omega)

/-- `hexval` on `A` to `F` (41_hex_codec.md R110). -/
theorem hexval_of_upper {c : Byte} (hlo : 0x41 ≤ c.toNat) (hhi : c.toNat ≤ 0x46) :
    hexval c = some (BitVec.ofNat 4 (c.toNat - 0x37)) := by
  have hdec : ¬ (0x30#8 ≤ c ∧ c ≤ 0x39#8) := by bv_omega
  have hupper : 0x41#8 ≤ c ∧ c ≤ 0x46#8 := by bv_omega
  rw [hexval, if_neg hdec, if_pos hupper]
  exact congrArg some (by bv_omega)

/-- `hexval` on `a` to `f` (41_hex_codec.md R110). -/
theorem hexval_of_lower {c : Byte} (hlo : 0x61 ≤ c.toNat) (hhi : c.toNat ≤ 0x66) :
    hexval c = some (BitVec.ofNat 4 (c.toNat - 0x57)) := by
  have hdec : ¬ (0x30#8 ≤ c ∧ c ≤ 0x39#8) := by bv_omega
  have hupper : ¬ (0x41#8 ≤ c ∧ c ≤ 0x46#8) := by bv_omega
  have hlower : 0x61#8 ≤ c ∧ c ≤ 0x66#8 := by bv_omega
  rw [hexval, if_neg hdec, if_neg hupper, if_pos hlower]
  exact congrArg some (by bv_omega)

/-- `hexval` on a byte between and around the three ranges of digits (41_hex_codec.md R110). -/
theorem hexval_eq_none {c : Byte}
    (h : c.toNat < 0x30 ∨ (0x39 < c.toNat ∧ c.toNat < 0x41) ∨ (0x46 < c.toNat ∧ c.toNat < 0x61) ∨ 0x66 < c.toNat) :
    hexval c = none := by
  have hdec : ¬ (0x30#8 ≤ c ∧ c ≤ 0x39#8) := by bv_omega
  have hupper : ¬ (0x41#8 ≤ c ∧ c ≤ 0x46#8) := by bv_omega
  have hlower : ¬ (0x61#8 ≤ c ∧ c ≤ 0x66#8) := by bv_omega
  rw [hexval, if_neg hdec, if_neg hupper, if_neg hlower]

/-- `hexchar` below ten (41_hex_codec.md R111). -/
theorem toNat_hexchar_of_le_nine {n : BitVec 4} (h : n.toNat ≤ 9) : (hexchar n).toNat = 0x30 + n.toNat := by
  rw [hexchar, if_pos (by bv_omega)]
  bv_omega

/-- `hexchar` from ten (41_hex_codec.md R111). -/
theorem toNat_hexchar_of_ten_le {n : BitVec 4} (h : 10 ≤ n.toNat) : (hexchar n).toNat = 0x37 + n.toNat := by
  rw [hexchar, if_neg (by bv_omega)]
  bv_omega

/-- A digit's character is a decimal or an upper-case digit, and `hexval` gives the digit back. -/
@[simp] theorem hexval_hexchar (n : BitVec 4) : hexval (hexchar n) = some n := by
  by_cases h : n.toNat ≤ 9
  · have hc := toNat_hexchar_of_le_nine h
    rw [hexval_of_decimal (by omega) (by omega), hc, Nat.add_sub_cancel_left, BitVec.ofNat_toNat, BitVec.setWidth_eq]
  · have hc := toNat_hexchar_of_ten_le (n := n) (by omega)
    rw [hexval_of_upper (by omega) (by omega), hc, Nat.add_sub_cancel_left, BitVec.ofNat_toNat, BitVec.setWidth_eq]

/-! ## Pairs -/

theorem decodeHexPair_of_some {chi clo : Byte} {h l : BitVec 4} (hh : hexval chi = some h) (hl : hexval clo = some l) :
    decodeHexPair chi clo = some (h ++ l) := by
  simp [decodeHexPair, hh, hl]

theorem decodeHexPair_of_none {chi clo : Byte} (h : hexval chi = none ∨ hexval clo = none) :
    decodeHexPair chi clo = none := by
  rcases h with h | h
  · simp [decodeHexPair, h]
  · cases hc : hexval chi <;> simp [decodeHexPair, hc, h]

/-- The pair decoder undoes the two digits of a byte (41_hex_codec.md R118). -/
theorem decodeHexPair_hexchar (b : Byte) :
    decodeHexPair (hexchar (b.extractLsb' 4 4)) (hexchar (b.extractLsb' 0 4)) = some b := by
  have hb : b = b.extractLsb' 4 4 ++ b.extractLsb' 0 4 := eq_append_iff_extractLsb' (n := 4) (m := 4) |>.mpr ⟨rfl, rfl⟩
  rw [decodeHexPair_of_some (hexval_hexchar _) (hexval_hexchar _), ← hb]

/-! ## The pair commands -/

/-- HEX.DPAIR on two digits finishes with their byte in RESULT (41_hex_codec.md R115). -/
theorem exec_hexDpair_of_some {chi clo b : Byte} (h : decodeHexPair chi clo = some b) (s : State) :
    exec (.hexDpair chi clo) s = .next (finish { s with result := b.setWidth 32 }) := by
  simp [exec, execHexDpair, h]

/-- HEX.DPAIR on anything else raises ConversionError (41_hex_codec.md R115). -/
theorem exec_hexDpair_of_none {chi clo : Byte} (h : decodeHexPair chi clo = none) (s : State) :
    exec (.hexDpair chi clo) s = .next (raiseError .conversion .exec s) := by
  simp [exec, execHexDpair, h]

/-- Settles O13: the pair decoder's two outcomes, each with its end of the command. -/
theorem hexDpairDecodesAPair : Obligations.HexDpairDecodesAPair := by
  refine ⟨fun w chi clo => decode_eq_ok_hexDpair_iff, ?_, ?_⟩
  · intro s chi clo h l hh hl
    rw [exec_hexDpair_of_some (decodeHexPair_of_some hh hl), setWidth_append_eq_or]
    rfl
  · intro s chi clo h
    exact exec_hexDpair_of_none (decodeHexPair_of_none h) s

/-- Settles O14: HEX.DPAIR is run on the two characters by `decodeHexPair_hexchar`. -/
theorem hexEpairEncodesAByte : Obligations.HexEpairEncodesAByte :=
  ⟨fun _ _ => decode_eq_ok_hexEpair_iff, fun _ _ => rfl,
    fun s imm => exec_hexDpair_of_some (decodeHexPair_hexchar imm) s⟩

/-- Settles O12: one lemma for each range of characters and digits, and for each outcome of a pair. -/
theorem hexDigitsAndPairs : Obligations.HexDigitsAndPairs := by
  refine ⟨fun c => ⟨fun ⟨hlo, hhi⟩ => hexval_of_decimal hlo hhi, fun ⟨hlo, hhi⟩ => hexval_of_upper hlo hhi,
      fun ⟨hlo, hhi⟩ => hexval_of_lower hlo hhi, hexval_eq_none⟩,
    fun n => ⟨toNat_hexchar_of_le_nine, toNat_hexchar_of_ten_le, hexval_hexchar n⟩,
    fun chi clo => ⟨decodeHexPair_of_none, fun h l hh hl => ?_⟩⟩
  rw [decodeHexPair_of_some hh hl, ← setWidth_append_eq_or, BitVec.setWidth_eq]

end Sys2Proof.Machine
end

section
/-!
PROOFS. The CRC-32 engine and its commands, and its reflected form (42_crc32.md R130 to R141).
-/

namespace Sys2Proof

/-! ## The words of the CRC commands -/

/-- A command that decodes from its own word has that word only (30_encoding.md R95). -/
theorem decode_eq_ok_iff_eq_encode {i : Instr} (h : decode (encode i) = .ok i) {w : Word} :
    decode w = .ok i ↔ w = encode i :=
  ⟨fun hw => (encode_of_decode hw).symm, fun hw => hw ▸ h⟩

/-- CRC.BYTE's word has its OP and clear reserved bits, whatever the operand (42_crc32.md R139). -/
theorem decode_encode_crcByte (imm : Byte) : decode (encode (.crcByte imm)) = .ok (.crcByte imm) := by
  have hop : opField (encode (.crcByte imm)) = 0x21#8 := (eq_formatB_word_iff (r := 0#16).mp rfl).1
  have hrow : decode (encode (.crcByte imm)) = formatB (encode (.crcByte imm)) .crcByte := by simp [decode, hop]
  exact hrow.trans ((formatB_eq_ok_iff hop).mpr ⟨imm, rfl, rfl⟩)

/-! ## Bit reversal -/

theorem reverse_xor {n : Nat} (x y : BitVec n) : (x ^^^ y).reverse = x.reverse ^^^ y.reverse := by
  ext i hi
  simp [BitVec.getElem_reverse, BitVec.getMsbD_xor]

/-- Reversal exchanges the directions of a shift. -/
theorem reverse_shiftLeft {n : Nat} (x : BitVec n) (k : Nat) : (x <<< k).reverse = x.reverse >>> k := by
  ext i hi
  simp [BitVec.getLsbD_reverse, BitVec.getElem_reverse, BitVec.getMsbD_shiftLeft, Nat.add_comm]

/-- Reversal exchanges the two ends of a word. -/
theorem reverse_extractLsb'_top (r : Word) : (r.extractLsb' 24 8).reverse = r.reverse.setWidth 8 := by
  ext i hi
  simp [BitVec.getElem_reverse, BitVec.getMsbD_eq_getLsbD, show i < 32 by omega, show 7 - i < 8 by omega,
    show 24 + (7 - i) = 31 - i by omega, hi]

/-- The reversal of a byte in the top place is the reversed byte in the bottom place. -/
theorem reverse_append_zero (i : Byte) : (i ++ 0#24).reverse = i.reverse.setWidth 32 := by
  ext j hj
  rw [BitVec.getElem_reverse, BitVec.getMsbD_append, BitVec.getElem_setWidth, BitVec.getLsbD_reverse]
  split
  case isTrue hhigh => simp [BitVec.getMsbD_of_ge i j hhigh]
  case isFalse => rfl

end Sys2Proof

namespace Sys2Proof.Machine

/-! ## The reflected form -/

/-- The reflected polynomial (42_crc32.md R135). -/
theorem reverse_crcPoly : Config.crcPoly.reverse = 0xEDB88320#32 := by decide +kernel

/-- One forward step, seen in the reflected register: it tests the other end and shifts the other way. -/
theorem reverse_fwdShift (r : Word) : (fwdShift r).reverse = reflShift r.reverse := by
  have hbit : r.reverse.getLsbD 0 = r.getLsbD 31 := by
    rw [BitVec.getLsbD_reverse, BitVec.getMsbD_eq_getLsbD]
    simp
  unfold fwdShift reflShift
  rw [hbit]
  split
  · rw [reverse_xor, reverse_shiftLeft, reverse_crcPoly]
  · rw [reverse_shiftLeft]

/-- The eight steps of a table entry, each seen in the reflected register. -/
theorem reverse_fwd (i : Byte) : (fwd i).reverse = reflTable i.reverse := by
  simp only [fwd, reflTable, reverse_fwdShift, reverse_append_zero]

theorem reflTable_eq_reverse_fwd (i : Byte) : reflTable i = (fwd i.reverse).reverse := by
  rw [reverse_fwd, BitVec.reverse_reverse_eq]

theorem reverse_crcStep (r : Word) (b : Byte) : (crcStep r b).reverse = reflStep r.reverse b := by
  have hindex : (r.extractLsb' 24 8 ^^^ refl8 b).reverse = r.reverse.setWidth 8 ^^^ b := by
    rw [reverse_xor, reverse_extractLsb'_top, refl8, BitVec.reverse_reverse_eq]
  rw [crcStep, reverse_xor, reverse_shiftLeft, reverse_fwd, hindex, reflStep]

theorem crcFinal_eq_reverse_xor (r : Word) : crcFinal r = r.reverse ^^^ 0xFFFFFFFF#32 := by
  have hones : (0xFFFFFFFF#32).reverse = 0xFFFFFFFF#32 := by decide +kernel
  rw [crcFinal, reverse_xor, hones]

/-- Reversal carries the forward register to the reflected one after any bytes. -/
theorem reverse_crcRegister (r : Word) (bytes : List Byte) :
    (crcRegister r bytes).reverse = bytes.foldl reflStep r.reverse :=
  (List.foldl_hom BitVec.reverse fun r b => (reverse_crcStep r b).symm).symm

theorem crc32_eq_crc32Reflected (bytes : List Byte) : crc32 bytes = crc32Reflected bytes := by
  have hinit : Config.crcInit.reverse = 0xFFFFFFFF#32 := by decide +kernel
  rw [crc32, crcFinal_eq_reverse_xor, reverse_crcRegister, hinit, crc32Reflected]

/-- Settles O23: bit reversal takes each part of the forward form to its part of the reflected form. -/
theorem reflectedCrcEqualsTheForwardCrc : Obligations.ReflectedCrcEqualsTheForwardCrc :=
  ⟨reverse_crcPoly, reflTable_eq_reverse_fwd, reverse_crcStep, crcFinal_eq_reverse_xor, crc32_eq_crc32Reflected⟩

/-! ## The CRC commands -/

theorem crcStep_eq_ushiftRight (r : Word) (b : Byte) :
    crcStep r b = (r <<< 8) ^^^ fwd ((r >>> 24).setWidth 8 ^^^ refl8 b) := by
  have htop : r.extractLsb' 24 8 = (r >>> 24).setWidth 8 := by ext i hi; simp
  rw [crcStep, htop]

/-- CRC.BUF on a length within BUF finishes with the running register in CRCREG and its final form in RESULT
(42_crc32.md R137, R141). -/
theorem exec_crcBuf_of_le {s : State} (h : s.fdlen.toNat ≤ Config.bufSize) :
    exec .crcBuf s = .next (finish { crcOverBuf s.fdlen.toNat s with
      result := crc32 (s.buf.bytes s.fdlen.toNat) }) :=
  withDataLength_of_le h fun n => .next (finish { crcOverBuf n s with result := crc32 (s.buf.bytes n) })

/-- Settles O19: CRC.INIT's one word and its one write. -/
theorem crcInitStartsACrc : Obligations.CrcInitStartsACrc :=
  ⟨fun _ => decode_eq_ok_iff_eq_encode rfl, fun _ => rfl⟩

/-- Settles O20: the command's step is `crcStep`, and the examples are computed. -/
theorem crcByteMakesOneTableStep : Obligations.CrcByteMakesOneTableStep := by
  refine ⟨fun w imm => ?_, fun s imm => ?_, by decide +kernel, by decide +kernel, by decide +kernel⟩
  · exact decode_eq_ok_iff_eq_encode (decode_encode_crcByte imm)
  · rw [← crcStep_eq_ushiftRight]
    rfl

/-- Settles O21: CRC.FINAL's one word and its one write, and the examples computed. -/
theorem crcFinalTransformsIntoResult : Obligations.CrcFinalTransformsIntoResult :=
  ⟨fun _ => decode_eq_ok_iff_eq_encode rfl, fun _ => rfl,
    by decide +kernel, by decide +kernel, by decide +kernel, by decide +kernel⟩

/-- Settles O22: the length check passes under R29's premise, and the examples are computed. -/
theorem crcBufTakesTheCrcOfThePayload : Obligations.CrcBufTakesTheCrcOfThePayload :=
  ⟨fun _ => decode_eq_ok_iff_eq_encode rfl, fun _ h => exec_crcBuf_of_le h,
    by decide +kernel, by decide +kernel, by decide +kernel⟩

end Sys2Proof.Machine
end

section
/-!
PROOFS. The markers of the Frame Decoder and the Mask Reader, byte by byte (43_frame_decoder.md R152, R161, R167).
-/

namespace Sys2Proof.Machine

/-! ## One byte of a marker -/

section
variable {st : SeqState} {marker : List Byte} {s : State} {onEos done : State → Out} {c : Byte} {rest : List Byte}

theorem markerStep_wait (ha : s.input.ahead = []) (he : s.input.ended = false) :
    markerStep st marker s onEos done = .next s := by
  simp [markerStep, inRead_wait ha he]

theorem markerStep_eos (ha : s.input.ahead = []) (he : s.input.ended = true) :
    markerStep st marker s onEos done = onEos s := by
  simp [markerStep, inRead_eos ha he]

theorem markerStep_of_ne (ha : s.input.ahead = c :: rest) (hm : marker[s.k]? ≠ some c) :
    markerStep st marker s onEos done = .next (raiseError .frameFormat st (takeByte rest s)) := by
  simp [markerStep, inRead_byte ha, hm]

theorem markerStep_of_eq (ha : s.input.ahead = c :: rest) (hm : marker[s.k]? = some c) (hk : s.k ≠ 4) :
    markerStep st marker s onEos done = .next { takeByte rest s with k := s.k + 1 } := by
  simp [markerStep, inRead_byte ha, hm, hk]

theorem markerStep_last (ha : s.input.ahead = c :: rest) (hm : marker[s.k]? = some c) (hk : s.k = 4) :
    markerStep st marker s onEos done = done { takeByte rest s with k := s.k + 1 } := by
  rw [hk] at hm
  simp [markerStep, inRead_byte ha, hm, hk]

end

/-! ## The commands in their markers -/

/-- EndOfStream before a frame, as the command `i` ends at it: FRM.DECODE has decoded no frame, FRM.ONE and FRM.RUN
report the frames they completed (43_frame_decoder.md R170, 45_pipeline.md R212, R214). -/
def endAtEos (i : Instr) (s : State) : Out :=
  .next (finish { s with status := s.status.atEndOfStream, result := if i = .frmDecode then 0#32 else s.nf })

/-- The three commands that read a header read it alike, but for their result at EndOfStream. -/
theorem exec_of_hdr {i : Instr} {s : State} (hi : i = .frmDecode ∨ i = .frmOne ∨ i = .frmRun) (hs : s.seq = .hdr) :
    exec i s = headerStep (endAtEos i) s := by
  rcases hi with rfl | rfl | rfl
  · simp only [exec, execFrmDecode, hs]
    rfl
  · simp only [exec, execFrmOne, iterationStep, hs]
    rfl
  · simp only [exec, execFrmRun, iterationStep, hs]
    rfl

/-- The three commands that read a mask marker read it alike. -/
theorem exec_of_mhdr {i : Instr} {s : State} (hi : i = .frmMaskrd ∨ i = .frmOne ∨ i = .frmRun) (hs : s.seq = .mhdr) :
    exec i s = maskMarkerStep s := by
  rcases hi with rfl | rfl | rfl
  · simp only [exec, execFrmMaskrd, hs]
  · simp only [exec, execFrmOne, iterationStep, hs]
  · simp only [exec, execFrmRun, iterationStep, hs]

/-- End-of-input before the first byte of a header is EndOfStream (43_frame_decoder.md R161). -/
theorem headerEos_of_zero {s : State} (f : State → Out) (hk : s.k = 0) : headerEos f s = f s := if_pos hk

/-- End-of-input inside a header's marker is a partial marker (43_frame_decoder.md R152). -/
theorem headerEos_of_pos {s : State} (f : State → Out) (hk : 0 < s.k) :
    headerEos f s = .next (raiseError .frameFormat .hdr s) := if_neg (by omega)

/-- Settles O29: the bytes and the waits are `markerStep`'s, whichever marker is read; only end-of-input asks which. -/
theorem markersFailAtTheFirstDifferentByte : Obligations.MarkersFailAtTheFirstDifferentByte := by
  intro i s marker hmarker hk
  have hexec : ∃ onEos, exec i s = markerStep s.seq marker s onEos fun t =>
      .next (enter (if s.seq = .hdr then .type else .mval) t) := by
    rcases hmarker with ⟨hs, rfl, hi⟩ | ⟨hs, rfl, hi⟩
    · exact ⟨headerEos (endAtEos i), by rw [exec_of_hdr hi hs, hs]; rfl⟩
    · exact ⟨fun t => .next (raiseError .frameFormat .mhdr t), by rw [exec_of_mhdr hi hs, hs]; rfl⟩
  obtain ⟨onEos, hexec⟩ := hexec
  refine ⟨?waits, ?differs, ?agrees, ?last, ?partialMarker, ?endOfStream⟩
  case waits => exact fun ha he => hexec.trans (markerStep_wait ha he)
  case differs => exact fun c rest ha hm => hexec.trans (markerStep_of_ne ha hm)
  case agrees => exact fun c rest ha hm hlt => hexec.trans (markerStep_of_eq ha hm (by omega))
  case last => exact fun c rest ha hm hfour => hexec.trans (markerStep_last ha hm hfour)
  case partialMarker =>
    intro ha he hpartial
    rcases hmarker with ⟨hs, -, hi⟩ | ⟨hs, -, hi⟩
    · have hpos : 0 < s.k := by simpa [hs] using hpartial
      rw [exec_of_hdr hi hs, headerStep, markerStep_eos ha he, headerEos_of_pos _ hpos, hs]
      rfl
    · rw [exec_of_mhdr hi hs, maskMarkerStep, markerStep_eos ha he, hs]
      rfl
  case endOfStream =>
    intro ha he hs hzero
    rcases hmarker with ⟨-, -, hi⟩ | ⟨hmask, -⟩
    · refine ⟨if i = .frmDecode then 0#32 else s.nf, ?_, fun h => if_pos h, fun h => if_neg h⟩
      rw [exec_of_hdr hi hs, headerStep, markerStep_eos ha he, headerEos_of_zero _ hzero]
      rfl
    · exact absurd (hs.symm.trans hmask) (by decide)

end Sys2Proof.Machine
end

section
/-!
PROOFS. The Integrity & Transform Stage: Verify, Pad, Mask and Recompute, as XF commands and as stages of an iteration
(44_transform.md R190 to R197).
-/

namespace Sys2Proof.Machine

/-! ## The stages of an iteration -/

/-- FRM.ONE and FRM.RUN make the same block steps, but for what a completed frame leads to
(45_pipeline.md R212, R214). -/
theorem exec_eq_iterationStep {i : Instr} (hi : i = .frmOne ∨ i = .frmRun) (s : State) :
    ∃ completed, exec i s = iterationStep pipeStart pipeAtEos completed s := by
  rcases hi with rfl | rfl
  · exact ⟨pipeFinish, rfl⟩
  · exact ⟨fun t => .next (enter .hdr t), rfl⟩

section
variable {i : Instr} {s : State} (hi : i = .frmOne ∨ i = .frmRun)
include hi

theorem exec_of_verify (hs : s.seq = .verify) : exec i s = pipeVerify s := by
  obtain ⟨completed, h⟩ := exec_eq_iterationStep hi s
  simp only [h, iterationStep, hs]

theorem exec_of_pad (hs : s.seq = .pad) : exec i s = pipePad s := by
  obtain ⟨completed, h⟩ := exec_eq_iterationStep hi s
  simp only [h, iterationStep, hs]

theorem exec_of_mask (hs : s.seq = .mask) : exec i s = pipeMask s := by
  obtain ⟨completed, h⟩ := exec_eq_iterationStep hi s
  simp only [h, iterationStep, hs]

theorem exec_of_recomp (hs : s.seq = .recomp) : exec i s = pipeRecompute s := by
  obtain ⟨completed, h⟩ := exec_eq_iterationStep hi s
  simp only [h, iterationStep, hs]

end

/-! ## Verify -/

/-- The state in which Verify compares, with `r` in RESULT (44_transform.md R190). -/
def atCompare (r : Word) (s : State) : State :=
  { crcOverBuf s.fdlen.toNat s with seq := .verify, result := r }

theorem compareCrc_atCompare_of_eq {s : State} (h : crc32 (s.buf.bytes s.fdlen.toNat) = s.fcrc) (r : Word)
    (passed : State → Out) : compareCrc (atCompare r s) passed = passed (atCompare r s) := by
  have hcrc : crcFinal (atCompare r s).crcreg = (atCompare r s).fcrc := h
  rw [compareCrc, if_pos hcrc]

theorem compareCrc_atCompare_of_ne {s : State} (h : crc32 (s.buf.bytes s.fdlen.toNat) ≠ s.fcrc) (r : Word)
    (passed : State → Out) :
    compareCrc (atCompare r s) passed = .next (raiseError .checksum .verify (atCompare r s)) := by
  have hcrc : crcFinal (atCompare r s).crcreg ≠ (atCompare r s).fcrc := h
  rw [compareCrc, if_neg hcrc]

/-- XF.VERIFY on a legal length has written RESULT when it compares (44_transform.md R190). -/
theorem exec_xfVerify_of_le {s : State} (hn : s.fdlen.toNat ≤ Config.bufSize) :
    exec .xfVerify s =
      compareCrc (atCompare (crc32 (s.buf.bytes s.fdlen.toNat)) s) fun t => .next (finish t) := by
  rw [exec, execXfVerify, withDataLength_of_le hn]
  rfl

/-- XF.VERIFY on a payload whose CRC is FCRC finishes (44_transform.md R190). -/
theorem exec_xfVerify_of_eq {s : State} (hn : s.fdlen.toNat ≤ Config.bufSize)
    (h : crc32 (s.buf.bytes s.fdlen.toNat) = s.fcrc) :
    exec .xfVerify s = .next (finish (atCompare s.fcrc s)) := by
  rw [exec_xfVerify_of_le hn, compareCrc_atCompare_of_eq h, h]

/-- The stage Verify on a legal length leaves RESULT alone, and goes on to the PRE record
(44_transform.md R190, 45_pipeline.md R211). -/
theorem pipeVerify_of_le {s : State} (hn : s.fdlen.toNat ≤ Config.bufSize) :
    pipeVerify s =
      compareCrc (atCompare s.result s) fun t => .next (callEmit .pre t s.fdlen.toNat) := by
  rw [pipeVerify, verifyStage, withDataLength_of_le hn]
  rfl

/-- Settles O31: command and stage each reach `compareCrc` with CRCREG written, and it passes or raises. -/
theorem verifyComparesTheCrcWithFcrc : Obligations.VerifyComparesTheCrcWithFcrc := by
  refine ⟨fun _ => decode_eq_ok_iff_eq_encode rfl, fun s hn => ⟨fun h => ?commandPasses, fun h => ?commandFails⟩,
    fun i s hi hs hn => ⟨fun h => ?stagePasses, fun h => ?stageFails⟩⟩
  case commandPasses => exact exec_xfVerify_of_eq hn h
  case commandFails =>
    rw [exec_xfVerify_of_le hn, compareCrc_atCompare_of_ne h]
    rfl
  case stagePasses =>
    rw [exec_of_verify hi hs, pipeVerify_of_le hn, compareCrc_atCompare_of_eq h]
    rfl
  case stageFails =>
    rw [exec_of_verify hi hs, pipeVerify_of_le hn, compareCrc_atCompare_of_ne h]
    rfl

/-! ## Pad -/

/-- The state after the stage Pad, at the code PAD (44_transform.md R192). -/
def afterPad (s : State) : State :=
  { s with
    seq := .pad, buf := s.buf.zeroFill s.fdlen.toNat (roundup4 s.fdlen.toNat - s.fdlen.toNat),
    fdlen := BitVec.ofNat 8 (roundup4 s.fdlen.toNat) }

theorem padStage_of_le {s : State} (hn : s.fdlen.toNat ≤ Config.bufSize) (next : State → Out) :
    padStage s next = next (afterPad s) :=
  withDataLength_of_le hn fun n =>
    next { s with seq := .pad, buf := s.buf.zeroFill n (roundup4 n - n), fdlen := BitVec.ofNat 8 (roundup4 n) }

/-- Pad clears the bytes up to the next multiple of 4 and no other (44_transform.md R192). -/
theorem byteAt_afterPad (s : State) (a : Nat) :
    (afterPad s).buf.byteAt a =
      if s.fdlen.toNat ≤ a ∧ a < roundup4 s.fdlen.toNat then 0#8 else s.buf.byteAt a := by
  rw [afterPad, Memory.byteAt_zeroFill, Nat.add_sub_cancel' (le_roundup4 _)]

/-- The rounded length still fits FDLEN (44_transform.md R192). -/
theorem toNat_fdlen_afterPad {s : State} (hn : s.fdlen.toNat ≤ Config.bufSize) :
    (afterPad s).fdlen.toNat = roundup4 s.fdlen.toNat := by
  have hlt : roundup4 s.fdlen.toNat < 2 ^ 8 := (roundup4_le hn).trans_lt (by decide)
  rw [afterPad, BitVec.toNat_ofNat, Nat.mod_eq_of_lt hlt]

/-- XF.PAD on a legal length reports the new FDLEN (44_transform.md R192). -/
theorem exec_xfPad_of_le {s : State} (hn : s.fdlen.toNat ≤ Config.bufSize) :
    exec .xfPad s = .next (finish { afterPad s with result := BitVec.ofNat 32 (roundup4 s.fdlen.toNat) }) := by
  rw [exec, execXfPad, padStage_of_le hn, ← BitVec.ofNat_toNat, toNat_fdlen_afterPad hn]

/-- Settles O32: command and stage both go on from `afterPad s`, whose bytes and length the lemmas above give. -/
theorem padZeroFillsToAMultipleOfFour : Obligations.PadZeroFillsToAMultipleOfFour := by
  refine ⟨fun _ => decode_eq_ok_iff_eq_encode rfl, fun s hn => ?command, fun i s hi hs hn => ?stage⟩
  case command => exact ⟨_, exec_xfPad_of_le hn, rfl, toNat_fdlen_afterPad hn, byteAt_afterPad s⟩
  case stage =>
    have hstage : exec i s = .next (enter .mask (afterPad s)) := (exec_of_pad hi hs).trans (padStage_of_le hn _)
    exact ⟨_, hstage, rfl, byteAt_afterPad s⟩

/-! ## The byte lanes of a word -/

theorem maskLane_and (v w : Word) (i : Nat) : maskLane (v &&& w) i = maskLane v i &&& maskLane w i := by
  ext b hb
  simp [maskLane]

/-- A word is its four lanes. -/
theorem eq_of_maskLane_eq {v w : Word} (h : ∀ i < 4, maskLane v i = maskLane w i) : v = w := by
  have hv : v = maskLane w 0 ++ maskLane w 1 ++ maskLane w 2 ++ maskLane w 3 :=
    eq_formatP_word_iff.mpr ⟨h 0 (by decide), h 1 (by decide), h 2 (by decide), h 3 (by decide)⟩
  have hw : w = maskLane w 0 ++ maskLane w 1 ++ maskLane w 2 ++ maskLane w 3 :=
    eq_formatP_word_iff.mpr ⟨rfl, rfl, rfl, rfl⟩
  exact hv.trans hw.symm

/-- The lanes of a word of BUF are its bytes, in the order of their indices (20_memory.md R62, R64). -/
theorem maskLane_readWord (m : Memory) (a : Nat) {i : Nat} (hi : i < 4) :
    maskLane (m.readWord a) i = m.byteAt (a + i) := by
  obtain ⟨h0, h1, h2, h3⟩ := eq_formatP_word_iff.mp (rfl : m.readWord a = _ ++ _ ++ _ ++ _)
  interval_cases i
  exacts [h0, h1, h2, h3]

/-! ## Mask -/

/-- One visited word: its four bytes are ANDed with their lanes (44_transform.md R195). -/
theorem byteAt_maskWord (mask : Word) (m : Memory) (j a : Nat) :
    (maskWord mask m j).byteAt a =
      if a / 4 = j then m.byteAt a &&& maskLane mask (a % 4) else m.byteAt a := by
  rw [maskWord, Memory.byteAt_writeWord]
  split
  case isTrue hj =>
    have ha : 4 * j + a % 4 = a := by omega
    calc maskLane (m.readWord (4 * j) &&& mask) (a % 4)
      _ = maskLane (m.readWord (4 * j)) (a % 4) &&& maskLane mask (a % 4) := maskLane_and _ _ _
      _ = m.byteAt a &&& maskLane mask (a % 4) := by rw [maskLane_readWord _ _ (by omega), ha]
  case isFalse => rfl

/-- After all visits: a byte is ANDed with its lane if its word was visited, however often. -/
theorem byteAt_foldl_maskWord (mask : Word) (js : List Nat) (m : Memory) (a : Nat) :
    (js.foldl (maskWord mask) m).byteAt a =
      if a / 4 ∈ js then m.byteAt a &&& maskLane mask (a % 4) else m.byteAt a := by
  induction js generalizing m with
  | nil => rfl
  | cons j js ih =>
    rw [List.foldl_cons, ih, byteAt_maskWord]
    by_cases hj : a / 4 = j <;> by_cases hjs : a / 4 ∈ js <;> simp [hj, hjs, BitVec.and_assoc]

/-- The state after the stage Mask, at the code MASK (44_transform.md R194). -/
def afterMask (s : State) : State :=
  { s with seq := .mask, buf := (maskedWords (s.fdlen.toNat / 4)).foldl (maskWord s.mask) s.buf }

theorem maskStage_of_le {s : State} (hn : s.fdlen.toNat ≤ Config.bufSize) (next : State → Out) :
    maskStage s next = next (afterMask s) :=
  withDataLength_of_le hn fun n =>
    next { s with seq := .mask, buf := (maskedWords (n / 4)).foldl (maskWord s.mask) s.buf }

/-- XF.MASK on a legal length reports the number of words visited (44_transform.md R194). -/
theorem exec_xfMask_of_le {s : State} (hn : s.fdlen.toNat ≤ Config.bufSize) :
    exec .xfMask s =
      .next (finish { afterMask s with result := BitVec.ofNat 32 (s.fdlen.toNat / 4 / 2) }) := by
  rw [exec, execXfMask, maskStage_of_le hn]
  rfl

/-- Mask in the byte-lane form (44_transform.md R195). -/
theorem byteAt_afterMask (s : State) (a : Nat) :
    (afterMask s).buf.byteAt a =
      if a / 4 % 2 = 1 ∧ a / 4 < s.fdlen.toNat / 4 then s.buf.byteAt a &&& maskLane s.mask (a % 4)
      else s.buf.byteAt a := by
  simp only [afterMask, byteAt_foldl_maskWord, mem_maskedWords]

/-- Mask in the word form (44_transform.md R194): each lane of a visited word is ANDed. -/
theorem readWord_afterMask {s : State} {j : Nat} (hodd : j % 2 = 1) (hj : j < s.fdlen.toNat / 4) :
    (afterMask s).buf.readWord (4 * j) = s.buf.readWord (4 * j) &&& s.mask := by
  refine eq_of_maskLane_eq fun i hi => ?_
  have hdiv : (4 * j + i) / 4 = j := by omega
  have hmod : (4 * j + i) % 4 = i := by omega
  rw [maskLane_and, maskLane_readWord _ _ hi, maskLane_readWord _ _ hi, byteAt_afterMask, hdiv, hmod,
    if_pos ⟨hodd, hj⟩]

/-- Settles O33: command and stage both go on from `afterMask s`, read by words and by bytes. -/
theorem maskAndsEveryOtherWordFromTheSecond : Obligations.MaskAndsEveryOtherWordFromTheSecond := by
  refine ⟨fun _ => decode_eq_ok_iff_eq_encode rfl, fun s hn => ?command, fun i s hi hs hn => ?stage⟩
  case command =>
    exact ⟨_, exec_xfMask_of_le hn, rfl, fun j hodd hj => readWord_afterMask hodd hj, byteAt_afterMask s⟩
  case stage =>
    have hstage : exec i s = .next (enter .recomp (afterMask s)) := (exec_of_mask hi hs).trans (maskStage_of_le hn _)
    exact ⟨_, hstage, rfl, byteAt_afterMask s⟩

/-! ## Recompute -/

/-- The state after the stage Recompute, at the code RECOMP (44_transform.md R196). -/
def afterRecompute (s : State) : State :=
  { crcOverBuf s.fdlen.toNat s with seq := .recomp, fcrc := crc32 (s.buf.bytes s.fdlen.toNat) }

theorem recomputeStage_of_le {s : State} (hn : s.fdlen.toNat ≤ Config.bufSize) (next : Nat → State → Out) :
    recomputeStage s next = next s.fdlen.toNat (afterRecompute s) :=
  withDataLength_of_le hn _

/-- XF.RECOMP on a legal length reports the new FCRC (44_transform.md R196). -/
theorem exec_xfRecomp_of_le {s : State} (hn : s.fdlen.toNat ≤ Config.bufSize) :
    exec .xfRecomp s = .next (finish { afterRecompute s with result := (afterRecompute s).fcrc }) := by
  rw [exec, execXfRecomp, recomputeStage_of_le hn]

/-- Settles O34: command and stage both go on from `afterRecompute s`, and the examples are computed. -/
theorem recomputeStoresTheCrcOfThePayload : Obligations.RecomputeStoresTheCrcOfThePayload :=
  ⟨fun _ => decode_eq_ok_iff_eq_encode rfl, fun _ hn => exec_xfRecomp_of_le hn,
    fun _ _ hi hs hn => (exec_of_recomp hi hs).trans (recomputeStage_of_le hn _),
    by decide +kernel, by decide +kernel, by decide +kernel⟩

/-- Settles O36: Recompute puts the CRC of the payload in FCRC, and the payload Verify reads is the same. -/
theorem verifyPassesAfterRecompute : Obligations.VerifyPassesAfterRecompute := by
  intro s t u hn ht
  obtain rfl : finish { afterRecompute s with result := (afterRecompute s).fcrc } = t :=
    Host.Outcome.next.inj ((exec_xfRecomp_of_le hn).symm.trans ht)
  refine ⟨rfl, fun (hlen : u.fdlen = s.fdlen) (hfcrc : u.fcrc = crc32 (s.buf.bytes s.fdlen.toNat))
    (hbytes : ∀ a < s.fdlen.toNat, u.buf.byteAt a = s.buf.byteAt a) => ?_⟩
  have hpayload : u.buf.bytes u.fdlen.toNat = s.buf.bytes s.fdlen.toNat := by
    rw [hlen, Memory.bytes_congr hbytes]
  have hcrc : crc32 (u.buf.bytes u.fdlen.toNat) = u.fcrc := by rw [hpayload, hfcrc]
  have hle : u.fdlen.toNat ≤ Config.bufSize := hlen ▸ hn
  exact ⟨_, exec_xfVerify_of_eq hle hcrc, rfl, rfl, rfl, rfl⟩

end Sys2Proof.Machine
end

section
/-!
PROOFS. Command acceptance: what a host write of CMD does, and the control commands NOP, CLEAR and SRESET
(46_control.md R230 to R238).
-/

namespace Sys2Proof.Machine

/-! ## The acceptance table -/

/-- The accepting entries of the acceptance table (46_control.md R230). -/
theorem accepts_iff {f : Status} {w : Word} :
    accepts f w = true ↔ w = sresetWord ∨ (f.busy = false ∧ (f.err = false ∨ w = clearWord)) := by
  simp [accepts]

/-- The dropping entries of the acceptance table (46_control.md R230). -/
theorem accepts_eq_false_iff {f : Status} {w : Word} :
    accepts f w = false ↔ w ≠ sresetWord ∧ (f.busy = true ∨ (f.err = true ∧ w ≠ clearWord)) := by
  rw [← Bool.not_eq_true, accepts_iff, not_or, not_and_or, not_or, Bool.not_eq_false, Bool.not_eq_false]

theorem runAccepted_of_ne {w : Word} (hw : w ≠ sresetWord) (s : State) : runAccepted w s = runWord w (accept w s) :=
  if_neg hw

theorem runWord_of_ok {w : Word} {i : Instr} (hd : decode w = .ok i) (s : State) : runWord w s = exec i s := by
  simp [runWord, hd]

theorem runWord_of_error {w : Word} {e : DecodeError} (hd : decode w = .error e) (s : State) :
    runWord w s = .next (raiseError .illegalCommand .exec s) := by
  simp [runWord, hd]

/-! ## A step in which the host writes CMD -/

section
variable {s : State} {w : Word} {rest : List EnvAct} (henv : s.env = .write 0x00#8 w :: rest)
include henv

theorem step_of_writeCmd : step s = writeCmd w { s with env := rest } := step_of_cons henv

theorem step_of_accepts (hrst : s.rst = false) (h : accepts s.status w = true) :
    step s = runAccepted w { s with env := rest } := by
  simp [step_of_writeCmd henv, writeCmd, hrst, h]

theorem step_of_drops (hrst : s.rst = false) (h : accepts s.status w = false) :
    step s = .next { s with env := rest, status := s.status.dropped } := by
  simp [step_of_writeCmd henv, writeCmd, hrst, h]

/-- Any accepted word but SRESET's runs in the state of acceptance (46_control.md R231). -/
theorem step_of_accepted (hrst : s.rst = false) (hw : w ≠ sresetWord) (hbusy : s.status.busy = false)
    (herr : s.status.err = false ∨ w = clearWord) : step s = runWord w (accept w { s with env := rest }) :=
  (step_of_accepts henv hrst (accepts_iff.mpr (.inr ⟨hbusy, herr⟩))).trans (runAccepted_of_ne hw _)

/-- SRESET's word is accepted whatever the flags, and runs without R231 (46_control.md R230, R231). -/
theorem step_of_sreset (hrst : s.rst = false) (hw : w = sresetWord) :
    step s = exec .sreset { s with env := rest } := by
  rw [step_of_accepts henv hrst (accepts_iff.mpr (.inl hw)), hw]
  rfl

end

/-- Settles O5: SRESET by its own lemma, every other accepted word by `step_of_accepted` and what it decodes to. -/
theorem stepRunsTheAcceptedCommand : Obligations.StepRunsTheAcceptedCommand := by
  intro s w rest henv hrst
  refine ⟨step_of_sreset henv hrst, fun hw hbusy herr => ?_⟩
  have hrun : step s = runWord w (accept w { s with env := rest }) := step_of_accepted henv hrst hw hbusy herr
  exact ⟨fun i hd => hrun.trans (runWord_of_ok hd _), fun e hd => hrun.trans (runWord_of_error hd _)⟩

/-! ## The control commands -/

/-- A word with the OP of NOP and a reserved bit set is illegal (46_control.md R236, 30_encoding.md R94). -/
theorem decode_nop_neighbour {w : Word} (hop : opField w = 0x00#8) (hw : w ≠ 0#32) :
    decode w = .error .reservedBitSet := by
  have hreserved : w.extractLsb' 0 24 ≠ 0 := fun h => hw (eq_formatN_word_iff.mpr ⟨hop, h⟩)
  have hrow : decode w = formatN w .nop := by simp [decode, hop]
  exact hrow.trans (if_neg hreserved)

/-- Settles O9: NOP's word is accepted, illegal or dropped as the acceptance table and the decoder say. -/
theorem nopOnlyFinishes : Obligations.NopOnlyFinishes := by
  refine ⟨fun _ => decode_eq_ok_iff_eq_encode rfl, ?accepted, ?neighbours, fun _ => rfl, ?dropped⟩
  case accepted => exact fun s rest henv hrst hbusy herr => step_of_accepted henv hrst (by decide) hbusy (.inl herr)
  case neighbours =>
    intro s w rest hop hw henv hrst hbusy herr
    have hillegal : decode w = .error .reservedBitSet := decode_nop_neighbour hop hw
    have hsreset : w ≠ sresetWord := by
      rintro rfl
      exact absurd hop (by decide)
    exact (step_of_accepted henv hrst hsreset hbusy (.inl herr)).trans (runWord_of_error hillegal _)
  case dropped =>
    exact fun s rest henv hrst _ herr =>
      step_of_drops henv hrst (accepts_eq_false_iff.mpr ⟨by decide, .inr ⟨herr, by decide⟩⟩)

/-- Settles O10: CLEAR's word is accepted in either state of ERR. -/
theorem clearOnlyClearsTheLatchedError : Obligations.ClearOnlyClearsTheLatchedError :=
  ⟨fun _ => decode_eq_ok_iff_eq_encode rfl, fun _ => rfl,
    fun _ _ henv hrst hbusy => step_of_accepted henv hrst (by decide) hbusy (.inr rfl)⟩

/-- Settles O11: SRESET's word runs SRESET in every state. -/
theorem sresetResetsAndLeavesBufAndPorts : Obligations.SresetResetsAndLeavesBufAndPorts :=
  ⟨fun _ => decode_eq_ok_iff_eq_encode rfl, fun _ => rfl, fun _ _ henv hrst => step_of_sreset henv hrst rfl⟩

end Sys2Proof.Machine
end

section
/-!
PROOFS. OVR: a dropped word sets it, and no step but CLEAR and a reset clears it (46_control.md R230, R232).
-/

namespace Sys2Proof.Machine

/-! ## The shared operations keep OVR -/

/-- OVR is set in the next state, if there is one. -/
def OvrSet : Out → Prop
  | .next t => t.status.ovr = true
  | .fault _ | .refused _ => True

/-- Where OVR is set, it stays set. -/
def KeepsOvr (f : State → Out) : Prop := ∀ s : State, s.status.ovr = true → OvrSet (f s)

/-- A rule over the payload, which may stop at its length. -/
theorem ovrSet_withDataLength {s : State} {f : Nat → Out} (hf : ∀ n, OvrSet (f n)) : OvrSet (withDataLength s f) := by
  rcases withDataLength_cases s f with ⟨-, hr⟩ | ⟨-, hr⟩
  · exact hr ▸ hf _
  · exact hr ▸ trivial

section
variable {s : State} (hovr : s.status.ovr = true)
include hovr

theorem ovrSet_storePair {b : Byte} {next : State → Out} (hn : KeepsOvr next) : OvrSet (storePair b s next) := by
  unfold storePair
  split
  · exact hn _ hovr
  · trivial

theorem ovrSet_compareCrc {passed : State → Out} (hp : KeepsOvr passed) : OvrSet (compareCrc s passed) := by
  rcases compareCrc_cases s passed with ⟨-, hr⟩ | ⟨-, hr⟩
  · exact hr ▸ hp s hovr
  · exact hr ▸ hovr

theorem ovrSet_readNibble {st : SeqState} {short : ErrKind} {next : BitVec 4 → State → Out}
    (hn : ∀ n, KeepsOvr (next n)) : OvrSet (readNibble st short s next) := by
  rcases readNibble_cases st short s next with ⟨-, -, hr⟩ | ⟨-, -, hr⟩ | ⟨c, rest, -, ⟨-, hr⟩ | ⟨n, -, hr⟩⟩
  · exact hr ▸ hovr
  · exact hr ▸ hovr
  · exact hr ▸ hovr
  · exact hr ▸ hn n _ hovr

theorem ovrSet_pairStep {st : SeqState} {short : ErrKind} {done : Byte → State → Out} (hd : ∀ b, KeepsOvr (done b)) :
    OvrSet (pairStep st short s done) := by
  refine ovrSet_readNibble hovr fun n t htaken => ?_
  split
  · exact htaken
  · exact hd _ _ htaken

theorem ovrSet_wordStep {st : SeqState} {short : ErrKind} {done : Word → State → Out} (hd : ∀ v, KeepsOvr (done v)) :
    OvrSet (wordStep st short s done) := by
  refine ovrSet_readNibble hovr fun n t htaken => ?_
  dsimp only
  split
  · exact hd _ _ htaken
  · exact htaken

theorem ovrSet_markerStep {st : SeqState} {marker : List Byte} {onEos done : State → Out} (he : KeepsOvr onEos)
    (hd : KeepsOvr done) : OvrSet (markerStep st marker s onEos done) := by
  rcases markerStep_cases st marker s onEos done with
    ⟨-, -, hr⟩ | ⟨-, -, hr⟩ | ⟨c, rest, -, ⟨-, hr⟩ | ⟨-, -, hr⟩ | ⟨-, -, hr⟩⟩
  · exact hr ▸ hovr
  · exact hr ▸ he s hovr
  · exact hr ▸ hovr
  · exact hr ▸ hovr
  · exact hr ▸ hd _ hovr

theorem ovrSet_emitStep {accepted : SnapKind → State → Out} (ha : ∀ kind, KeepsOvr (accepted kind)) :
    OvrSet (emitStep s accepted) := by
  cases hp : s.pending with
  | none =>
    rw [emitStep, hp]
    trivial
  | some p =>
    rw [emitStep_of_some hp]
    split
    · exact ha _ _ hovr
    · exact hovr

/-! ## The stages keep OVR -/

theorem ovrSet_beginHeader {onEndOfStream : State → Out} (he : KeepsOvr onEndOfStream) :
    OvrSet (beginHeader onEndOfStream s) := by
  unfold beginHeader
  split
  · exact he _ hovr
  · exact hovr

theorem ovrSet_headerStep {onEndOfStream : State → Out} (he : KeepsOvr onEndOfStream) :
    OvrSet (headerStep onEndOfStream s) := by
  refine ovrSet_markerStep hovr (fun t hset => ?_) fun _ hset => hset
  unfold headerEos
  split
  · exact he t hset
  · exact hset

theorem ovrSet_typeStep : OvrSet (typeStep s) := ovrSet_pairStep hovr fun _ _ hset => hset

theorem ovrSet_lengthStep : OvrSet (lengthStep s) := by
  refine ovrSet_pairStep hovr fun v t hset => ?_
  dsimp only [lengthRead]
  split
  · exact hset
  · split <;> exact hset

theorem ovrSet_payloadStep : OvrSet (payloadStep s) := by
  refine ovrSet_pairStep hovr fun _ _ hset => ovrSet_storePair hset fun _ hstored => ?_
  split <;> exact hstored

theorem ovrSet_checksumStep {decoded : State → Out} (hd : KeepsOvr decoded) : OvrSet (checksumStep decoded s) :=
  ovrSet_wordStep hovr fun _ _ hset => hd _ hset

theorem ovrSet_maskMarkerStep : OvrSet (maskMarkerStep s) :=
  ovrSet_markerStep hovr (fun _ hset => hset) fun _ hset => hset

theorem ovrSet_maskValueStep {maskRead : State → Out} (hm : KeepsOvr maskRead) : OvrSet (maskValueStep maskRead s) :=
  ovrSet_wordStep hovr fun _ _ hset => hm _ hset

theorem ovrSet_verifyStage {passed : Nat → State → Out} (hp : ∀ n, KeepsOvr (passed n)) :
    OvrSet (verifyStage s passed) := by
  refine ovrSet_withDataLength fun n => ovrSet_compareCrc ?_ (hp n)
  exact hovr

theorem ovrSet_padStage {padded : State → Out} (hp : KeepsOvr padded) : OvrSet (padStage s padded) :=
  ovrSet_withDataLength fun _ => hp _ hovr

theorem ovrSet_maskStage {masked : State → Out} (hm : KeepsOvr masked) : OvrSet (maskStage s masked) :=
  ovrSet_withDataLength fun _ => hm _ hovr

theorem ovrSet_recomputeStage {recomputed : Nat → State → Out} (hr : ∀ n, KeepsOvr (recomputed n)) :
    OvrSet (recomputeStage s recomputed) :=
  ovrSet_withDataLength fun n => hr n _ hovr

/-- One block step of an iteration, where its start and its two ends keep OVR. -/
theorem ovrSet_iterationStep {start onEndOfStream completed : State → Out} (hs : KeepsOvr start)
    (he : KeepsOvr onEndOfStream) (hc : KeepsOvr completed) :
    OvrSet (iterationStep start onEndOfStream completed s) := by
  have haccepted : ∀ kind, KeepsOvr (pipeAccepted completed kind)
    | .pre => fun _ hset => hset
    | .post => fun _ hset => hc _ hset
  unfold iterationStep
  cases s.seq with
  | hdr => exact ovrSet_headerStep hovr he
  | type => exact ovrSet_typeStep hovr
  | len => exact ovrSet_lengthStep hovr
  | payload => exact ovrSet_payloadStep hovr
  | cksum => exact ovrSet_checksumStep hovr fun _ hset => hset
  | mhdr => exact ovrSet_maskMarkerStep hovr
  | mval => exact ovrSet_maskValueStep hovr fun _ hset => hset
  | verify => exact ovrSet_verifyStage hovr fun _ _ hset => hset
  | emit => exact ovrSet_emitStep hovr haccepted
  | pad => exact ovrSet_padStage hovr fun _ hset => hset
  | mask => exact ovrSet_maskStage hovr fun _ hset => hset
  | recomp => exact ovrSet_recomputeStage hovr fun _ _ hset => hset
  | idle | hexstr | exec => exact hs s hovr

end

/-! ## The commands keep OVR -/

theorem keepsOvr_execHexDpair (chi clo : Byte) : KeepsOvr (execHexDpair chi clo) := by
  intro s hovr
  unfold execHexDpair
  split <;> exact hovr

theorem keepsOvr_dstrStart (len : BitVec 10) (cap : Byte) : KeepsOvr (dstrStart len cap) := by
  intro s hovr
  unfold dstrStart
  repeat' split
  all_goals exact hovr

theorem keepsOvr_dstrStep (len : BitVec 10) : KeepsOvr (dstrStep len) := by
  refine fun s hovr => ovrSet_pairStep hovr fun _ _ hset => ovrSet_storePair hset fun _ hstored => ?_
  split <;> exact hstored

theorem keepsOvr_execHexDstr (len : BitVec 10) (cap : Byte) : KeepsOvr (execHexDstr len cap) := by
  intro s hovr
  unfold execHexDstr
  cases s.seq with
  | hexstr => exact keepsOvr_dstrStep len s hovr
  | _ => exact keepsOvr_dstrStart len cap s hovr

theorem keepsOvr_execCrcBuf : KeepsOvr execCrcBuf := fun _ hovr => ovrSet_withDataLength fun _ => hovr

theorem keepsOvr_execXfVerify : KeepsOvr execXfVerify := by
  refine fun s hovr => ovrSet_withDataLength fun n => ovrSet_compareCrc ?_ fun _ hset => hset
  exact hovr

theorem keepsOvr_execXfPad : KeepsOvr execXfPad := fun _ hovr => ovrSet_padStage hovr fun _ hset => hset

theorem keepsOvr_execXfMask : KeepsOvr execXfMask := fun _ hovr => ovrSet_maskStage hovr fun _ hset => hset

theorem keepsOvr_execXfRecomp : KeepsOvr execXfRecomp :=
  fun _ hovr => ovrSet_recomputeStage hovr fun _ _ hset => hset

theorem keepsOvr_execFrmDecode : KeepsOvr execFrmDecode := by
  have heos : KeepsOvr decodeAtEos := fun _ hset => hset
  intro s hovr
  unfold execFrmDecode
  cases s.seq with
  | hdr => exact ovrSet_headerStep hovr heos
  | type => exact ovrSet_typeStep hovr
  | len => exact ovrSet_lengthStep hovr
  | payload => exact ovrSet_payloadStep hovr
  | cksum => exact ovrSet_checksumStep hovr fun _ hset => hset
  | _ => exact ovrSet_beginHeader hovr heos

theorem keepsOvr_execFrmMaskrd : KeepsOvr execFrmMaskrd := by
  intro s hovr
  unfold execFrmMaskrd
  cases s.seq with
  | mhdr => exact ovrSet_maskMarkerStep hovr
  | mval => exact ovrSet_maskValueStep hovr fun _ hset => hset
  | _ => exact hovr

theorem keepsOvr_pipeAtEos : KeepsOvr pipeAtEos := fun _ hovr => hovr

theorem keepsOvr_pipeStart : KeepsOvr pipeStart := by
  refine fun s hovr => ovrSet_beginHeader ?_ keepsOvr_pipeAtEos
  exact hovr

/-- Every command but CLEAR and SRESET keeps OVR (46_control.md R232). -/
theorem keepsOvr_exec {i : Instr} (hclear : i ≠ .clear) (hsreset : i ≠ .sreset) : KeepsOvr (exec i) := by
  intro s hovr
  cases i with
  | clear => exact absurd rfl hclear
  | sreset => exact absurd rfl hsreset
  | nop | hexEpair | crcInit | crcByte | crcFinal => exact hovr
  | hexDpair chi clo => exact keepsOvr_execHexDpair chi clo s hovr
  | hexDstr len cap => exact keepsOvr_execHexDstr len cap s hovr
  | crcBuf => exact keepsOvr_execCrcBuf s hovr
  | frmDecode => exact keepsOvr_execFrmDecode s hovr
  | frmMaskrd => exact keepsOvr_execFrmMaskrd s hovr
  | xfVerify => exact keepsOvr_execXfVerify s hovr
  | xfPad => exact keepsOvr_execXfPad s hovr
  | xfMask => exact keepsOvr_execXfMask s hovr
  | xfRecomp => exact keepsOvr_execXfRecomp s hovr
  | frmOne => exact ovrSet_iterationStep hovr keepsOvr_pipeStart keepsOvr_pipeAtEos fun _ hset => hset
  | frmRun => exact ovrSet_iterationStep hovr keepsOvr_pipeStart keepsOvr_pipeAtEos fun _ hset => hset

/-! ## The steps keep OVR, but for CLEAR and reset -/

/-- A word other than CLEAR's and SRESET's keeps OVR, legal or not. -/
theorem keepsOvr_runWord {w : Word} (hclear : w ≠ clearWord) (hsreset : w ≠ sresetWord) : KeepsOvr (runWord w) := by
  intro s hovr
  cases hd : decode w with
  | error e => exact runWord_of_error hd s ▸ hovr
  | ok i =>
    obtain rfl : encode i = w := encode_of_decode hd
    rw [runWord_of_ok hd]
    exact keepsOvr_exec (fun h => hclear (congrArg encode h)) (fun h => hsreset (congrArg encode h)) s hovr

/-- A running command is neither CLEAR nor SRESET, which end in the step that accepts them. -/
theorem ovrSet_blockStep {s : State} (hovr : s.status.ovr = true) (hseq : s.sequencerInv) : OvrSet (blockStep s) := by
  cases hbusy : s.status.busy with
  | false => exact blockStep_of_idle hbusy ▸ hovr
  | true =>
    obtain ⟨-, hrunning, -⟩ := hseq
    obtain ⟨i, hd, hstands⟩ := hrunning hbusy
    rw [blockStep_of_busy hbusy hd]
    refine keepsOvr_exec ?_ ?_ s hovr
    · rintro rfl
      cases hstands
    · rintro rfl
      cases hstands

theorem keepsOvr_writeCmd {w : Word} (hclear : w ≠ clearWord) (hsreset : w ≠ sresetWord) : KeepsOvr (writeCmd w) := by
  intro s hovr
  rcases writeCmd_cases w s with ⟨-, hr⟩ | ⟨-, -, hr⟩ | ⟨-, -, hr⟩
  · exact hr ▸ hovr
  · rw [hr, runAccepted_of_ne hsreset]
    exact keepsOvr_runWord hclear hsreset _ hovr
  · exact hr ▸ rfl

@[simp] theorem writeReg_status (r : Reg) (v : Word) (s : State) : (writeReg r v s).status = s.status := by
  cases r <;> rfl

@[simp] theorem writeReg_rst (r : Reg) (v : Word) (s : State) : (writeReg r v s).rst = s.rst := by
  cases r <;> rfl

/-- CMD has one index (10_state.md R21). -/
theorem eq_zero_of_regOfIndex_eq_cmd {index : Byte} (h : regOfIndex index = .cmd) : index = 0x00#8 := by
  unfold regOfIndex at h
  split at h
  case h_1 hindex => exact BitVec.eq_of_toNat_eq hindex
  case h_13 => split at h <;> cases h
  all_goals cases h

/-- A host write of any register but CMD keeps the flags, unless `rst` holds the block. -/
theorem ovrSet_hostWrite_of_ne_cmd {s : State} {index : Byte} {v : Word} (hovr : s.status.ovr = true)
    (hrst : s.rst = false) (hindex : index ≠ 0x00#8) : OvrSet (hostWrite index v s) := by
  unfold hostWrite
  split
  case h_1 h => exact absurd (eq_zero_of_regOfIndex_eq_cmd h) hindex
  case h_2 =>
    split
    · exact hovr
    · simpa [OvrSet, holdReset, hrst] using hovr

/-- Under the invariant OVR is not set while `rst` is asserted. -/
theorem State.Inv.rst_of_ovr {s : State} (hinv : s.Inv) (hovr : s.status.ovr = true) : s.rst = false := by
  obtain ⟨-, -, -, -, -, hheld⟩ := hinv
  refine Bool.eq_false_iff.mpr fun hrst => ?_
  rw [← hheld hrst] at hovr
  cases hovr

/-- A step keeps OVR, or the environment has written CLEAR or SRESET to CMD or driven `rst`. -/
theorem ovrSet_step_or {s : State} (hinv : s.Inv) (hovr : s.status.ovr = true) :
    OvrSet (step s) ∨ (∃ rest, s.env = .write 0x00#8 clearWord :: rest) ∨
      (∃ rest, s.env = .write 0x00#8 sresetWord :: rest) ∨ (∃ level rest, s.env = .rst level :: rest) := by
  have hrst : s.rst = false := hinv.rst_of_ovr hovr
  obtain ⟨-, -, -, -, hseq, -⟩ := hinv
  cases henv : s.env with
  | nil => exact .inl (step_of_nil henv ▸ ovrSet_blockStep hovr hseq)
  | cons act rest =>
    rw [step_of_cons henv]
    cases act with
    | write index w =>
      by_cases hindex : index = 0x00#8
      case neg => exact .inl (ovrSet_hostWrite_of_ne_cmd hovr hrst hindex)
      subst hindex
      by_cases hclear : w = clearWord
      case pos => exact .inr (.inl ⟨rest, by rw [hclear]⟩)
      by_cases hsreset : w = sresetWord
      case pos => exact .inr (.inr (.inl ⟨rest, by rw [hsreset]⟩))
      exact .inl (keepsOvr_writeCmd hclear hsreset _ hovr)
    | rst level => exact .inr (.inr (.inr ⟨level, rest, rfl⟩))
    | read | endInput | connect | sink => exact .inl hovr
    | offer b =>
      left
      dsimp only [envStep, offerByte]
      split <;> exact hovr
    | block => exact .inl (ovrSet_blockStep hovr hseq)
    | wait =>
      left
      dsimp only [envStep]
      split
      · exact ovrSet_blockStep hovr hseq
      · exact hovr

/-- Settles O7: the drop by the acceptance table, and OVR's fall by what a step can do where it is set. -/
theorem droppedWordOnlySetsOvr : Obligations.DroppedWordOnlySetsOvr := by
  refine ⟨fun s w rest henv hrst hw hdrop => ?drop, fun s t hinv hstep hset hfallen => ?falls⟩
  case drop => exact step_of_drops henv hrst (accepts_eq_false_iff.mpr ⟨hw, hdrop⟩)
  case falls =>
    refine (ovrSet_step_or hinv hset).resolve_left fun hstays => ?_
    rw [hstep] at hstays
    exact absurd (hfallen.symm.trans hstays) (by decide)

end Sys2Proof.Machine
end

section
/-!
PROOFS. Illegal words: accepted like any other, and ended at once by IllegalCommand (60_exceptions.md R241).
-/

namespace Sys2Proof.Machine

theorem decode_sresetWord : decode sresetWord = .ok .sreset := rfl

/-- SRESET's word is legal, so an illegal word is accepted by R231 and not by the rule of SRESET. -/
theorem ne_sresetWord_of_decode_error {w : Word} {e : DecodeError} (hd : decode w = .error e) : w ≠ sresetWord := by
  rintro rfl
  cases decode_sresetWord.symm.trans hd

/-- Settles O8: an illegal word is not SRESET's, so IllegalCommand is raised in the state of acceptance. Its error
entry (R245) overwrites the BUSY, DONE and `seq` that R231 has set; `cur` and the cleared EOSF stay. -/
theorem illegalCommandWritesOnlyStatusAndErrcode : Obligations.IllegalCommandWritesOnlyStatusAndErrcode := by
  intro s w rest e henv hrst hbusy herr hd
  have hsreset : w ≠ sresetWord := ne_sresetWord_of_decode_error hd
  calc step s
    _ = runWord w (accept w { s with env := rest }) := step_of_accepted henv hrst hsreset hbusy (.inl herr)
    _ = .next (raiseError .illegalCommand .exec (accept w { s with env := rest })) := runWord_of_error hd _

end Sys2Proof.Machine
end

section
/-!
PROOFS. Reset: a pulse of `rst` and SRESET lead to the same state (70_reset_and_hazards.md R270, R271).
-/

namespace Sys2Proof.Machine

/-- A run goes on from the next state of its first step. -/
theorem core_run_succ_of_step {s t : State} (h : step s = .next t) (k : Nat) :
    Sys2Proof.core.run (k + 1) s = Sys2Proof.core.run k t := by
  have hcore : Sys2Proof.core.step s = .next t := h
  simp only [Host.Core.run, hcore]

/-! ## `rst` driven to a level -/

/-- Whatever the level, a step in which `rst` is driven resets the block (70_reset_and_hazards.md R270). -/
theorem step_of_rst {s : State} {level : Bool} {rest : List EnvAct} (henv : s.env = .rst level :: rest) :
    step s = .next (setRst level { s with env := rest }) := step_of_cons henv

/-- Driven to the level it has, `rst` only resets. -/
theorem setRst_of_rst_eq {s : State} {level : Bool} (h : s.rst = level) : setRst level s = resetBlock s := by
  rw [setRst, ← h]

/-- The release of `rst` overwrites its assertion: a pulse does what the release alone does. -/
theorem core_run_rstPulse {s : State} {rest : List EnvAct} (henv : s.env = .rst true :: .rst false :: rest) :
    Sys2Proof.core.run 2 s = .next (setRst false { s with env := rest }) := by
  have hasserted : step s = .next (setRst true { s with env := .rst false :: rest }) := step_of_rst henv
  have hreleased : step (setRst true { s with env := .rst false :: rest }) =
      .next (setRst false { s with env := rest }) := step_of_rst (setRst_env true _)
  exact (core_run_succ_of_step hasserted 1).trans (core_run_succ_of_step hreleased 0)

/-- Settles O48: the pulse ends in a release, and where `rst` is released already that is SRESET's reset. -/
theorem sresetHasTheEffectOfARstPulse : Obligations.SresetHasTheEffectOfARstPulse := by
  intro s rest hrst
  have hreset : setRst false { s with env := rest } = resetBlock { s with env := rest } := setRst_of_rst_eq hrst
  have hsreset : step { s with env := .write 0x00#8 sresetWord :: rest } = .next (resetBlock { s with env := rest }) :=
    step_of_sreset rfl hrst rfl
  have hpulse : Sys2Proof.core.run 2 { s with env := .rst true :: .rst false :: rest } =
      .next (resetBlock { s with env := rest }) := hreset ▸ core_run_rstPulse rfl
  exact ⟨_, hsreset, hpulse, resetBlock_frames _, resetBlock_incnt _, rfl, resetBlock_crcreg _, resetBlock_buf _⟩

end Sys2Proof.Machine
end

section
/-!
PROOFS. The decoder and the encoder undo each other, and the words outside the encoder's image are those of the three
cases of illegal encodings (30_encoding.md R90 to R95).
-/

namespace Sys2Proof

/-! ## Encode, then decode -/

/-- The words of HEX.DSTR: any LEN, and a CAP within BUF (41_hex_codec.md R117, 30_encoding.md R94(c)). -/
theorem decode_eq_ok_hexDstr_iff {w : Word} {len : BitVec 10} {cap : Byte} :
    decode w = .ok (.hexDstr len cap) ↔ cap.toNat ≤ Config.bufSize ∧ w = 0x12#8 ++ cap ++ 0#6 ++ len := by
  have hrow {v : Word} (hop : opField v = 0x12#8) : decode v = formatS v .hexDstr := by simp [decode, hop]
  constructor
  · intro h
    have hw : w = 0x12#8 ++ cap ++ 0#6 ++ len := (encode_of_decode h).symm
    have hop : opField w = 0x12#8 := (eq_formatS_word_iff.mp hw).1
    obtain ⟨len', cap', hcap, -, heq⟩ := (formatS_eq_ok_iff hop).mp ((hrow hop).symm.trans h)
    obtain ⟨-, rfl⟩ := Instr.hexDstr.inj heq
    exact ⟨hcap, hw⟩
  · rintro ⟨hcap, hw⟩
    have hop : opField w = 0x12#8 := (eq_formatS_word_iff.mp hw).1
    exact (hrow hop).trans ((formatS_eq_ok_iff hop).mpr ⟨len, cap, hcap, hw, rfl⟩)

/-- The decoder undoes the encoder: by computation for format N, by the words of its row for a command with operands. -/
theorem decode_encode {i : Instr} (h : i.wellFormed = true) : decode (encode i) = .ok i := by
  cases i with
  | hexDpair chi clo => exact decode_eq_ok_hexDpair_iff.mpr rfl
  | hexEpair imm => exact decode_eq_ok_hexEpair_iff.mpr rfl
  | hexDstr len cap => exact decode_eq_ok_hexDstr_iff.mpr ⟨of_decide_eq_true h, rfl⟩
  | crcByte imm => exact decode_encode_crcByte imm
  | nop | clear | sreset | crcInit | crcFinal | crcBuf | frmDecode | frmMaskrd => rfl
  | xfVerify | xfPad | xfMask | xfRecomp | frmOne | frmRun => rfl

/-- Settles O1. -/
theorem decodeOfEncodeIsTheCommand : Obligations.DecodeOfEncodeIsTheCommand := fun _ => decode_encode

/-- What the decoder gives is legal: only HEX.DSTR has a check, and its format makes it. -/
theorem wellFormed_of_decode {w : Word} {i : Instr} (h : decode w = .ok i) : i.wellFormed = true := by
  cases i with
  | hexDstr len cap => exact decide_eq_true (decode_eq_ok_hexDstr_iff.mp h).1
  | _ => rfl

/-- Settles O2. -/
theorem encodeOfDecodeIsTheWord : Obligations.EncodeOfDecodeIsTheWord :=
  fun _ _ h => ⟨encode_of_decode h, wellFormed_of_decode h⟩

/-! ## The illegal words -/

theorem ifClear_eq_error_iff {n : Nat} {r : BitVec n} {i : Instr} : (∃ e, ifClear r i = .error e) ↔ r ≠ 0 := by
  unfold ifClear
  split
  case isTrue hr => simp [hr]
  case isFalse hr => exact iff_of_true ⟨_, rfl⟩ hr

/-- Format S rejects a CAP beyond BUF and a reserved bit that is set (30_encoding.md R94(b), (c)). -/
theorem formatS_eq_error_iff {w : Word} {f : BitVec 10 → Byte → Instr} :
    (∃ e, formatS w f = .error e) ↔ w.extractLsb' 10 6 ≠ 0 ∨ Config.bufSize < (capField w).toNat := by
  unfold formatS
  split
  case isTrue hcap => simp [hcap]
  case isFalse hcap => simp [ifClear_eq_error_iff, hcap]

/-- Settles O3: OP selects a row or none, and each row's format rejects its own illegal words. -/
theorem illegalWordsAreThoseOfTheThreeCases : Obligations.IllegalWordsAreThoseOfTheThreeCases := by
  intro w
  change (∃ e, decode w = .error e) ↔ (opField w).toNat ∉ _ ∨ ((opField w).toNat ∈ _ ∧ _) ∨
    ((opField w).toNat ∈ _ ∧ _) ∨ ((opField w).toNat = _ ∧ _) ∨ ((opField w).toNat = _ ∧ _) ∨
    ((opField w).toNat = _ ∧ Config.bufSize < (capField w).toNat)
  unfold decode
  split
  case h_4 hop => simp [hop, formatP, ifClear_eq_error_iff]
  case h_5 hop | h_8 hop => simp [hop, formatB, ifClear_eq_error_iff]
  case h_6 hop => simp [hop, formatS_eq_error_iff]
  case h_19 => exact iff_of_true ⟨_, rfl⟩ (.inl fun hmem => by simp_all)
  all_goals
    rename_i hop
    simp [hop, formatN, ifClear_eq_error_iff]

/-- Settles O4: the examples are computed. -/
theorem exampleWordsDecodeToTheirCommands : Obligations.ExampleWordsDecodeToTheirCommands := by
  refine ⟨rfl, rfl, rfl, rfl, rfl, rfl, rfl, rfl, rfl⟩

end Sys2Proof
end

section
/-!
PROOFS. The block steps of a running command as a relation: one rule for each thing a stage can do in a step
(43_frame_decoder.md, 44_transform.md, 45_pipeline.md; 41_hex_codec.md R117). Each rule is the meaning's own step, and
in every stage in which nothing can fault some rule applies.
-/

namespace Sys2Proof.Machine

/-! ## The stages by what they read -/

/-- The marker a stage reads (43_frame_decoder.md R152). -/
def SeqState.marker? : SeqState → Option (List Byte)
  | .hdr => some Config.hdrMarker
  | .mhdr => some Config.maskMarker
  | .idle | .type | .len | .payload | .cksum | .mval | .verify | .pad | .mask | .recomp | .emit | .hexstr
  | .exec => none

/-- The stage behind a marker (43_frame_decoder.md R161, R167). -/
def SeqState.afterMarker (st : SeqState) : SeqState := if st = .hdr then .type else .mval

@[simp] theorem SeqState.afterMarker_hdr : SeqState.hdr.afterMarker = .type := rfl

@[simp] theorem SeqState.afterMarker_mhdr : SeqState.mhdr.afterMarker = .mval := rfl

/-- The stages that read hex pairs (41_hex_codec.md R114). -/
def SeqState.readsPairs (st : SeqState) : Bool := [.type, .len, .payload, .hexstr].contains st

/-- The stages that read a field of 8 (41_hex_codec.md R114). -/
def SeqState.readsWord (st : SeqState) : Bool := [.cksum, .mval].contains st

/-- The stages that read hex digits. -/
def SeqState.readsDigits (st : SeqState) : Bool := st.readsPairs || st.readsWord

/-- The stages that read the input port. -/
def SeqState.readsPort (st : SeqState) : Bool := st.marker?.isSome || st.readsDigits

/-- The error a stage raises at end-of-input (43_frame_decoder.md R151, R152, 41_hex_codec.md R117). -/
def SeqState.shortKind (st : SeqState) : ErrKind :=
  if st.marker?.isSome then .frameFormat
  else if st = .payload ∨ st = .hexstr then .unexpectedLength
  else .conversion

theorem SeqState.marker?_eq_some_iff {st : SeqState} {marker : List Byte} :
    st.marker? = some marker ↔
      (st = .hdr ∧ marker = Config.hdrMarker) ∨ (st = .mhdr ∧ marker = Config.maskMarker) := by
  cases st <;> simp [SeqState.marker?, eq_comm]

theorem SeqState.readsPairs_iff {st : SeqState} :
    st.readsPairs = true ↔ st = .type ∨ st = .len ∨ st = .payload ∨ st = .hexstr := by
  simp [SeqState.readsPairs]

theorem SeqState.readsWord_iff {st : SeqState} : st.readsWord = true ↔ st = .cksum ∨ st = .mval := by
  simp [SeqState.readsWord]

/-! ## The commands by the stages they stand in -/

theorem standsIn_hdr_iff {i : Instr} : standsIn i .hdr = true ↔ i = .frmDecode ∨ i = .frmOne ∨ i = .frmRun := by
  cases i <;> simp [standsIn]

theorem standsIn_type_iff {i : Instr} : standsIn i .type = true ↔ i = .frmDecode ∨ i = .frmOne ∨ i = .frmRun := by
  cases i <;> simp [standsIn]

theorem standsIn_len_iff {i : Instr} : standsIn i .len = true ↔ i = .frmDecode ∨ i = .frmOne ∨ i = .frmRun := by
  cases i <;> simp [standsIn]

theorem standsIn_payload_iff {i : Instr} :
    standsIn i .payload = true ↔ i = .frmDecode ∨ i = .frmOne ∨ i = .frmRun := by
  cases i <;> simp [standsIn]

theorem standsIn_cksum_iff {i : Instr} : standsIn i .cksum = true ↔ i = .frmDecode ∨ i = .frmOne ∨ i = .frmRun := by
  cases i <;> simp [standsIn]

theorem standsIn_mhdr_iff {i : Instr} : standsIn i .mhdr = true ↔ i = .frmMaskrd ∨ i = .frmOne ∨ i = .frmRun := by
  cases i <;> simp [standsIn]

theorem standsIn_mval_iff {i : Instr} : standsIn i .mval = true ↔ i = .frmMaskrd ∨ i = .frmOne ∨ i = .frmRun := by
  cases i <;> simp [standsIn]

theorem standsIn_hexstr_iff {i : Instr} : standsIn i .hexstr = true ↔ ∃ len cap, i = .hexDstr len cap := by
  cases i <;> simp [standsIn]

theorem standsIn_verify_iff {i : Instr} : standsIn i .verify = true ↔ i = .frmOne ∨ i = .frmRun := by
  cases i <;> simp [standsIn]

theorem standsIn_emit_iff {i : Instr} : standsIn i .emit = true ↔ i = .frmOne ∨ i = .frmRun := by
  cases i <;> simp [standsIn]

theorem standsIn_pad_iff {i : Instr} : standsIn i .pad = true ↔ i = .frmOne ∨ i = .frmRun := by
  cases i <;> simp [standsIn]

theorem standsIn_mask_iff {i : Instr} : standsIn i .mask = true ↔ i = .frmOne ∨ i = .frmRun := by
  cases i <;> simp [standsIn]

theorem standsIn_recomp_iff {i : Instr} : standsIn i .recomp = true ↔ i = .frmOne ∨ i = .frmRun := by
  cases i <;> simp [standsIn]

@[simp] theorem standsIn_idle (i : Instr) : standsIn i .idle = false := by cases i <;> rfl

@[simp] theorem standsIn_exec (i : Instr) : standsIn i .exec = false := by cases i <;> rfl

/-! ## What a stage leads to, by command -/

/-- A command ends with its result, or goes on to the stage `st`. -/
def finishOr (ends : Prop) [Decidable ends] (result : Word) (st : SeqState) (s : State) : State :=
  if ends then finish { s with result := result } else enter st s

section
variable (ends : Prop) [Decidable ends] (r : Word) (st : SeqState) (s : State)

/-- What both ends leave alone. -/
theorem finishOr_keeps {α : Type} {field : State → α} (hfinish : field (finish { s with result := r }) = field s)
    (henter : field (enter st s) = field s) : field (finishOr ends r st s) = field s := by
  unfold finishOr
  split
  · exact hfinish
  · exact henter

@[simp] theorem finishOr_errcode : (finishOr ends r st s).errcode = s.errcode := finishOr_keeps ends r st s rfl rfl
@[simp] theorem finishOr_crcreg : (finishOr ends r st s).crcreg = s.crcreg := finishOr_keeps ends r st s rfl rfl
@[simp] theorem finishOr_ftype : (finishOr ends r st s).ftype = s.ftype := finishOr_keeps ends r st s rfl rfl
@[simp] theorem finishOr_fplen : (finishOr ends r st s).fplen = s.fplen := finishOr_keeps ends r st s rfl rfl
@[simp] theorem finishOr_fdlen : (finishOr ends r st s).fdlen = s.fdlen := finishOr_keeps ends r st s rfl rfl
@[simp] theorem finishOr_fcrc : (finishOr ends r st s).fcrc = s.fcrc := finishOr_keeps ends r st s rfl rfl
@[simp] theorem finishOr_mask : (finishOr ends r st s).mask = s.mask := finishOr_keeps ends r st s rfl rfl
@[simp] theorem finishOr_frames : (finishOr ends r st s).frames = s.frames := finishOr_keeps ends r st s rfl rfl
@[simp] theorem finishOr_incnt : (finishOr ends r st s).incnt = s.incnt := finishOr_keeps ends r st s rfl rfl
@[simp] theorem finishOr_buf : (finishOr ends r st s).buf = s.buf := finishOr_keeps ends r st s rfl rfl
@[simp] theorem finishOr_cur : (finishOr ends r st s).cur = s.cur := finishOr_keeps ends r st s rfl rfl
@[simp] theorem finishOr_nf : (finishOr ends r st s).nf = s.nf := finishOr_keeps ends r st s rfl rfl
@[simp] theorem finishOr_input : (finishOr ends r st s).input = s.input := finishOr_keeps ends r st s rfl rfl
@[simp] theorem finishOr_pending : (finishOr ends r st s).pending = s.pending := finishOr_keeps ends r st s rfl rfl
@[simp] theorem finishOr_sinkReady : (finishOr ends r st s).sinkReady = s.sinkReady :=
  finishOr_keeps ends r st s rfl rfl
@[simp] theorem finishOr_delivered : (finishOr ends r st s).delivered = s.delivered :=
  finishOr_keeps ends r st s rfl rfl
@[simp] theorem finishOr_rst : (finishOr ends r st s).rst = s.rst := finishOr_keeps ends r st s rfl rfl
@[simp] theorem finishOr_env : (finishOr ends r st s).env = s.env := finishOr_keeps ends r st s rfl rfl
@[simp] theorem finishOr_draws : (finishOr ends r st s).draws = s.draws := finishOr_keeps ends r st s rfl rfl
@[simp] theorem finishOr_reads : (finishOr ends r st s).reads = s.reads := finishOr_keeps ends r st s rfl rfl

theorem finishOr_cases :
    (ends ∧ finishOr ends r st s = finish { s with result := r }) ∨ (¬ends ∧ finishOr ends r st s = enter st s) := by
  unfold finishOr
  split
  case isTrue h => exact .inl ⟨h, rfl⟩
  case isFalse h => exact .inr ⟨h, rfl⟩

end

/-- A frame is decoded: FRM.DECODE finishes, FRM.ONE and FRM.RUN expect the mask (43_frame_decoder.md R170,
45_pipeline.md R211). -/
abbrev afterDecode (i : Instr) (s : State) : State := finishOr (i = .frmDecode) 1#32 .mhdr s

/-- A mask is read: FRM.MASKRD finishes, FRM.ONE and FRM.RUN go on to Verify (43_frame_decoder.md R171,
45_pipeline.md R211). -/
abbrev afterMaskRead (i : Instr) (s : State) : State := finishOr (i = .frmMaskrd) s.mask .verify s

/-- A frame is completed: FRM.ONE finishes, FRM.RUN expects the next header (45_pipeline.md R212, R214). -/
abbrev afterFrame (i : Instr) (s : State) : State := finishOr (i = .frmOne) s.nf .hdr s

section
variable {i : Instr} {s : State}

theorem exec_of_type (hst : standsIn i .type = true) (hs : s.seq = .type) : exec i s = typeStep s := by
  rcases standsIn_type_iff.mp hst with rfl | rfl | rfl <;>
    simp only [exec, execFrmDecode, execFrmOne, execFrmRun, iterationStep, hs]

theorem exec_of_len (hst : standsIn i .len = true) (hs : s.seq = .len) : exec i s = lengthStep s := by
  rcases standsIn_len_iff.mp hst with rfl | rfl | rfl <;>
    simp only [exec, execFrmDecode, execFrmOne, execFrmRun, iterationStep, hs]

theorem exec_of_payload (hst : standsIn i .payload = true) (hs : s.seq = .payload) : exec i s = payloadStep s := by
  rcases standsIn_payload_iff.mp hst with rfl | rfl | rfl <;>
    simp only [exec, execFrmDecode, execFrmOne, execFrmRun, iterationStep, hs]

theorem exec_of_cksum (hst : standsIn i .cksum = true) (hs : s.seq = .cksum) :
    exec i s = checksumStep (fun t => .next (afterDecode i t)) s := by
  rcases standsIn_cksum_iff.mp hst with rfl | rfl | rfl <;>
    simp only [exec, execFrmDecode, execFrmOne, execFrmRun, iterationStep, hs] <;> rfl

theorem exec_of_mval (hst : standsIn i .mval = true) (hs : s.seq = .mval) :
    exec i s = maskValueStep (fun t => .next (afterMaskRead i t)) s := by
  rcases standsIn_mval_iff.mp hst with rfl | rfl | rfl <;>
    simp only [exec, execFrmMaskrd, execFrmOne, execFrmRun, iterationStep, hs] <;> rfl

theorem exec_of_emit (hst : standsIn i .emit = true) (hs : s.seq = .emit) :
    exec i s = emitStep s (pipeAccepted fun t => .next (afterFrame i t)) := by
  rcases standsIn_emit_iff.mp hst with rfl | rfl <;> simp only [exec, execFrmOne, execFrmRun, iterationStep, hs] <;> rfl

theorem exec_of_hexstr {len : BitVec 10} {cap : Byte} (hs : s.seq = .hexstr) :
    exec (.hexDstr len cap) s = dstrStep len s := by
  simp only [exec, execHexDstr, hs]

/-- A command in a marker stage reads the stage's marker; only end-of-input asks which stage it is. -/
theorem exec_of_marker {marker : List Byte} (hst : standsIn i s.seq = true) (hm : s.seq.marker? = some marker) :
    ∃ onEos, exec i s = markerStep s.seq marker s onEos (fun t => .next (enter s.seq.afterMarker t)) ∧
      (s.seq = .hdr → s.k = 0 → onEos s = endAtEos i s) ∧
      ((s.seq = .hdr → 0 < s.k) → onEos s = .next (raiseError s.seq.shortKind s.seq s)) := by
  rcases SeqState.marker?_eq_some_iff.mp hm with ⟨hs, rfl⟩ | ⟨hs, rfl⟩
  · have hexec : exec i s = headerStep (endAtEos i) s := exec_of_hdr (standsIn_hdr_iff.mp (hs ▸ hst)) hs
    refine ⟨headerEos (endAtEos i), ?_, fun _ hk => headerEos_of_zero _ hk, fun hk => ?_⟩
    · rw [hexec, hs]
      rfl
    · rw [headerEos_of_pos _ (hk hs), hs]
      rfl
  · have hexec : exec i s = maskMarkerStep s := exec_of_mhdr (standsIn_mhdr_iff.mp (hs ▸ hst)) hs
    refine ⟨fun t => .next (raiseError .frameFormat .mhdr t), ?_, fun h => absurd (hs.symm.trans h) (by decide),
      fun _ => ?_⟩
    · rw [hexec, hs]
      rfl
    · rw [hs]
      rfl

/-- A command in a stage of pairs reads one character of a pair. -/
theorem exec_of_readsPairs (hst : standsIn i s.seq = true) (hp : s.seq.readsPairs = true) :
    ∃ done, exec i s = pairStep s.seq s.seq.shortKind s done := by
  rcases SeqState.readsPairs_iff.mp hp with hs | hs | hs | hs <;> rw [hs] at hst ⊢
  · exact ⟨_, exec_of_type hst hs⟩
  · exact ⟨_, exec_of_len hst hs⟩
  · exact ⟨_, exec_of_payload hst hs⟩
  · obtain ⟨len, cap, rfl⟩ := standsIn_hexstr_iff.mp hst
    exact ⟨_, exec_of_hexstr hs⟩

/-- A command in a field of 8 reads one character of it. -/
theorem exec_of_readsWord (hst : standsIn i s.seq = true) (hw : s.seq.readsWord = true) :
    ∃ done, exec i s = wordStep s.seq s.seq.shortKind s done := by
  rcases SeqState.readsWord_iff.mp hw with hs | hs <;> rw [hs] at hst ⊢
  · exact ⟨_, exec_of_cksum hst hs⟩
  · exact ⟨_, exec_of_mval hst hs⟩

/-- A command in a stage of digits reads one digit. -/
theorem exec_of_readsDigits (hst : standsIn i s.seq = true) (hd : s.seq.readsDigits = true) :
    ∃ next, exec i s = readNibble s.seq s.seq.shortKind s next := by
  rcases Bool.or_eq_true_iff.mp hd with hp | hw
  · obtain ⟨_, h⟩ := exec_of_readsPairs hst hp
    exact ⟨_, h⟩
  · obtain ⟨_, h⟩ := exec_of_readsWord hst hw
    exact ⟨_, h⟩

end

/-! ## One character of a field -/

section
variable {st : SeqState} {short : ErrKind} {s : State} {c : Byte} {rest : List Byte} {n : BitVec 4}

theorem readNibble_wait {next : BitVec 4 → State → Out} (ha : s.input.ahead = []) (he : s.input.ended = false) :
    readNibble st short s next = .next s := by
  simp [readNibble, inRead_wait ha he]

theorem readNibble_eos {next : BitVec 4 → State → Out} (ha : s.input.ahead = []) (he : s.input.ended = true) :
    readNibble st short s next = .next (raiseError short st s) := by
  simp [readNibble, inRead_eos ha he]

theorem readNibble_of_none {next : BitVec 4 → State → Out} (ha : s.input.ahead = c :: rest) (hv : hexval c = none) :
    readNibble st short s next = .next (raiseError .conversion st (takeByte rest s)) := by
  simp [readNibble, inRead_byte ha, hv]

theorem readNibble_of_some {next : BitVec 4 → State → Out} (ha : s.input.ahead = c :: rest) (hv : hexval c = some n) :
    readNibble st short s next = next n (takeByte rest s) := by
  simp [readNibble, inRead_byte ha, hv]

theorem pairStep_high {done : Byte → State → Out} (ha : s.input.ahead = c :: rest) (hv : hexval c = some n)
    (hk : s.k % 2 = 0) : pairStep st short s done = .next { takeByte rest s with hi := n, k := s.k + 1 } := by
  simp [pairStep, readNibble_of_some ha hv, hk]

theorem pairStep_low {done : Byte → State → Out} (ha : s.input.ahead = c :: rest) (hv : hexval c = some n)
    (hk : s.k % 2 = 1) : pairStep st short s done = done (s.hi ++ n) { takeByte rest s with k := s.k + 1 } := by
  simp [pairStep, readNibble_of_some ha hv, hk]

/-- The field of 8 with one more digit behind those read (41_hex_codec.md R114). -/
def wordWith (n : BitVec 4) (s : State) : Word := (s.acc <<< 4) ||| n.setWidth 32

theorem wordStep_of_ne {done : Word → State → Out} (ha : s.input.ahead = c :: rest) (hv : hexval c = some n)
    (hk : s.k ≠ 7) : wordStep st short s done = .next { takeByte rest s with acc := wordWith n s, k := s.k + 1 } := by
  rw [wordStep, readNibble_of_some ha hv]
  exact if_neg hk

theorem wordStep_last {done : Word → State → Out} (ha : s.input.ahead = c :: rest) (hv : hexval c = some n)
    (hk : s.k = 7) :
    wordStep st short s done = done (wordWith n s) { takeByte rest s with acc := wordWith n s, k := s.k + 1 } := by
  rw [wordStep, readNibble_of_some ha hv]
  exact if_pos hk

end

/-! ## The rules -/

/-- The pair that ends with the digit `n` is stored at `wi` (43_frame_decoder.md R164, 41_hex_codec.md R117). -/
def storedPair (n : BitVec 4) (rest : List Byte) (s : State) : State :=
  { takeByte rest s with k := s.k + 1, buf := s.buf.write s.wi (s.hi ++ n), wi := s.wi + 1 }

/-- The length that ends with the digit `n` is written, at most 251 bytes of data behind it (43_frame_decoder.md
R163). -/
def lengthWritten (n : BitVec 4) (rest : List Byte) (s : State) : State :=
  { takeByte rest s with k := s.k + 1, fplen := s.hi ++ n, fdlen := (s.hi ++ n) - 4#8 }

/-- What the command `i`, running in the state `s`, can do in one block step: the rule that applies is the one whose
premises hold, and the state after it is the rule's. -/
inductive Moves (i : Instr) (s : State) : State → Prop
  /-- The port offers nothing (00_scope.md R12). -/
  | waitsForPort (hs : s.seq.readsPort = true) (ha : s.input.ahead = []) (he : s.input.ended = false) : Moves i s s
  /-- The sink does not accept (10_state.md R47). -/
  | waitsForSink {p : Snapshot} (hs : s.seq = .emit) (hp : s.pending = some p) (hr : s.sinkReady = false) : Moves i s s
  /-- End-of-input before a header (43_frame_decoder.md R161). -/
  | endOfStream (hs : s.seq = .hdr) (hk : s.k = 0) (ha : s.input.ahead = []) (he : s.input.ended = true) :
    Moves i s (finish { s with
      status := s.status.atEndOfStream, result := if i = .frmDecode then 0#32 else s.nf })
  /-- End-of-input inside a stage (43_frame_decoder.md R151, R152). -/
  | shortRead (hs : s.seq.readsPort = true) (hk : s.seq = .hdr → 0 < s.k) (ha : s.input.ahead = [])
    (he : s.input.ended = true) : Moves i s (raiseError s.seq.shortKind s.seq s)
  /-- A byte that is not the marker's (43_frame_decoder.md R152). -/
  | wrongByte {marker : List Byte} {c : Byte} {rest : List Byte} (hs : s.seq.marker? = some marker)
    (ha : s.input.ahead = c :: rest) (hm : marker[s.k]? ≠ some c) :
    Moves i s (raiseError .frameFormat s.seq (takeByte rest s))
  /-- A character that is no digit (41_hex_codec.md R113). -/
  | noDigit {c : Byte} {rest : List Byte} (hs : s.seq.readsDigits = true) (ha : s.input.ahead = c :: rest)
    (hv : hexval c = none) : Moves i s (raiseError .conversion s.seq (takeByte rest s))
  /-- A byte of a marker before its last. -/
  | markerByte {marker : List Byte} {c : Byte} {rest : List Byte} (hs : s.seq.marker? = some marker)
    (ha : s.input.ahead = c :: rest) (hm : marker[s.k]? = some c) (hk : s.k ≠ 4) :
    Moves i s { takeByte rest s with k := s.k + 1 }
  /-- The last byte of a marker. -/
  | markerDone {marker : List Byte} {c : Byte} {rest : List Byte} (hs : s.seq.marker? = some marker)
    (ha : s.input.ahead = c :: rest) (hm : marker[s.k]? = some c) (hk : s.k = 4) :
    Moves i s (enter s.seq.afterMarker (takeByte rest s))
  /-- The first digit of a pair. -/
  | highDigit {c : Byte} {rest : List Byte} {n : BitVec 4} (hs : s.seq.readsPairs = true)
    (ha : s.input.ahead = c :: rest) (hv : hexval c = some n) (hk : s.k % 2 = 0) :
    Moves i s { takeByte rest s with hi := n, k := s.k + 1 }
  /-- A digit of a field of 8 before its last. -/
  | wordDigit {c : Byte} {rest : List Byte} {n : BitVec 4} (hs : s.seq.readsWord = true)
    (ha : s.input.ahead = c :: rest) (hv : hexval c = some n) (hk : s.k ≠ 7) :
    Moves i s { takeByte rest s with acc := wordWith n s, k := s.k + 1 }
  /-- The type is read (43_frame_decoder.md R162). -/
  | typeDone {c : Byte} {rest : List Byte} {n : BitVec 4} (hs : s.seq = .type)
    (ha : s.input.ahead = c :: rest) (hv : hexval c = some n) (hk : s.k % 2 = 1) :
    Moves i s (enter .len { takeByte rest s with ftype := s.hi ++ n })
  /-- A length below 4 (43_frame_decoder.md R163). -/
  | lengthTooShort {c : Byte} {rest : List Byte} {n : BitVec 4} (hs : s.seq = .len)
    (ha : s.input.ahead = c :: rest) (hv : hexval c = some n) (hk : s.k % 2 = 1) (hlen : (s.hi ++ n).toNat < 4) :
    Moves i s (raiseError .frameFormat .len { takeByte rest s with k := s.k + 1, fplen := s.hi ++ n })
  /-- The length of a frame without data (43_frame_decoder.md R163, R164). -/
  | lengthOfNoData {c : Byte} {rest : List Byte} {n : BitVec 4} (hs : s.seq = .len)
    (ha : s.input.ahead = c :: rest) (hv : hexval c = some n) (hk : s.k % 2 = 1) (hlen : (s.hi ++ n).toNat = 4) :
    Moves i s (enter .cksum (lengthWritten n rest s))
  /-- The length of a frame with data (43_frame_decoder.md R163). -/
  | lengthDone {c : Byte} {rest : List Byte} {n : BitVec 4} (hs : s.seq = .len)
    (ha : s.input.ahead = c :: rest) (hv : hexval c = some n) (hk : s.k % 2 = 1) (hlen : 4 < (s.hi ++ n).toNat) :
    Moves i s { enter .payload (lengthWritten n rest s) with wi := 0 }
  /-- A payload byte before the last (43_frame_decoder.md R164). -/
  | payloadByte {c : Byte} {rest : List Byte} {n : BitVec 4} (hs : s.seq = .payload)
    (ha : s.input.ahead = c :: rest) (hv : hexval c = some n) (hk : s.k % 2 = 1) (hw : s.wi < Config.bufSize)
    (hmore : s.wi + 1 ≠ s.fdlen.toNat) : Moves i s (storedPair n rest s)
  /-- The last payload byte (43_frame_decoder.md R164). -/
  | payloadDone {c : Byte} {rest : List Byte} {n : BitVec 4} (hs : s.seq = .payload)
    (ha : s.input.ahead = c :: rest) (hv : hexval c = some n) (hk : s.k % 2 = 1) (hw : s.wi < Config.bufSize)
    (hlast : s.wi + 1 = s.fdlen.toNat) : Moves i s (enter .cksum (storedPair n rest s))
  /-- The claimed checksum is read (43_frame_decoder.md R165). -/
  | checksumDone {c : Byte} {rest : List Byte} {n : BitVec 4} (hs : s.seq = .cksum)
    (ha : s.input.ahead = c :: rest) (hv : hexval c = some n) (hk : s.k = 7) :
    Moves i s (afterDecode i { takeByte rest s with acc := wordWith n s, k := s.k + 1, fcrc := wordWith n s })
  /-- The mask is read (43_frame_decoder.md R168). -/
  | maskDone {c : Byte} {rest : List Byte} {n : BitVec 4} (hs : s.seq = .mval)
    (ha : s.input.ahead = c :: rest) (hv : hexval c = some n) (hk : s.k = 7) :
    Moves i s (afterMaskRead i { takeByte rest s with acc := wordWith n s, k := s.k + 1, mask := wordWith n s })
  /-- Verify passes (44_transform.md R190, 45_pipeline.md R211). -/
  | verifyPasses (hs : s.seq = .verify) (hn : s.fdlen.toNat ≤ Config.bufSize)
    (hcrc : crc32 (s.buf.bytes s.fdlen.toNat) = s.fcrc) :
    Moves i s (callEmit .pre (atCompare s.result s) s.fdlen.toNat)
  /-- Verify fails (44_transform.md R190). -/
  | verifyFails (hs : s.seq = .verify) (hn : s.fdlen.toNat ≤ Config.bufSize)
    (hcrc : crc32 (s.buf.bytes s.fdlen.toNat) ≠ s.fcrc) :
    Moves i s (raiseError .checksum .verify (atCompare s.result s))
  /-- The sink accepts PRE (45_pipeline.md R211). -/
  | deliversPre {p : Snapshot} (hs : s.seq = .emit) (hp : s.pending = some p) (hkind : p.kind = .pre)
    (hr : s.sinkReady = true) : Moves i s (enter .pad (deliver p s))
  /-- The sink accepts POST (45_pipeline.md R211). -/
  | deliversPost {p : Snapshot} (hs : s.seq = .emit) (hp : s.pending = some p) (hkind : p.kind = .post)
    (hr : s.sinkReady = true) : Moves i s (afterFrame i (countFrame (deliver p s)))
  /-- Pad (44_transform.md R192). -/
  | pads (hs : s.seq = .pad) (hn : s.fdlen.toNat ≤ Config.bufSize) : Moves i s (enter .mask (afterPad s))
  /-- Mask (44_transform.md R194). -/
  | masks (hs : s.seq = .mask) (hn : s.fdlen.toNat ≤ Config.bufSize) : Moves i s (enter .recomp (afterMask s))
  /-- Recompute (44_transform.md R196, 45_pipeline.md R211). -/
  | recomputes (hs : s.seq = .recomp) (hn : s.fdlen.toNat ≤ Config.bufSize) :
    Moves i s (callEmit .post (afterRecompute s) s.fdlen.toNat)
  /-- A byte of HEX.DSTR before the last (41_hex_codec.md R117). -/
  | stringByte {len : BitVec 10} {cap c : Byte} {rest : List Byte} {n : BitVec 4} (hi : i = .hexDstr len cap)
    (hs : s.seq = .hexstr) (ha : s.input.ahead = c :: rest) (hv : hexval c = some n) (hk : s.k % 2 = 1)
    (hw : s.wi < Config.bufSize) (hmore : s.wi + 1 ≠ len.toNat / 2) : Moves i s (storedPair n rest s)
  /-- The last byte of HEX.DSTR (41_hex_codec.md R117). -/
  | stringDone {len : BitVec 10} {cap c : Byte} {rest : List Byte} {n : BitVec 4} (hi : i = .hexDstr len cap)
    (hs : s.seq = .hexstr) (ha : s.input.ahead = c :: rest) (hv : hexval c = some n) (hk : s.k % 2 = 1)
    (hw : s.wi < Config.bufSize) (hlast : s.wi + 1 = len.toNat / 2) :
    Moves i s (finish { storedPair n rest s with result := BitVec.ofNat 32 (len.toNat / 2) })

/-! ## Each rule is a step of the command -/

theorem pairStep_stores {st : SeqState} {short : ErrKind} {s : State} {c : Byte} {rest : List Byte} {n : BitVec 4}
    {next : State → Out} (ha : s.input.ahead = c :: rest) (hv : hexval c = some n) (hk : s.k % 2 = 1)
    (hw : s.wi < Config.bufSize) :
    pairStep st short s (fun b t => storePair b t next) = next (storedPair n rest s) := by
  rw [pairStep_low ha hv hk]
  exact storePair_of_lt (s := { takeByte rest s with k := s.k + 1 }) hw _ _

/-- What `lengthRead` does with a length of 4 or more. -/
theorem lengthRead_of_le {v : Byte} {s : State} (h : 4 ≤ v.toNat) :
    lengthRead v s = .next (if v.toNat = 4 then enter .cksum { s with fplen := v, fdlen := v - 4#8 }
      else { enter .payload { s with fplen := v, fdlen := v - 4#8 } with wi := 0 }) := by
  simp only [lengthRead, if_neg (Nat.not_lt.mpr h)]
  split <;> rfl

theorem exec_of_moves {i : Instr} {s t : State} (hst : standsIn i s.seq = true) (h : Moves i s t) :
    exec i s = .next t := by
  cases h with
  | waitsForPort hs ha he =>
    rcases Bool.or_eq_true_iff.mp hs with hm | hd
    · obtain ⟨marker, hm⟩ := Option.isSome_iff_exists.mp hm
      obtain ⟨onEos, hexec, -⟩ := exec_of_marker hst hm
      exact hexec.trans (markerStep_wait ha he)
    · obtain ⟨next, hexec⟩ := exec_of_readsDigits hst hd
      exact hexec.trans (readNibble_wait ha he)
  | waitsForSink hs hp hr =>
    rw [exec_of_emit (hs ▸ hst) hs, emitStep_of_some hp, hr]
    rfl
  | endOfStream hs hk ha he =>
    obtain ⟨onEos, hexec, hend, -⟩ := exec_of_marker hst (SeqState.marker?_eq_some_iff.mpr (.inl ⟨hs, rfl⟩))
    exact hexec.trans ((markerStep_eos ha he).trans (hend hs hk))
  | shortRead hs hk ha he =>
    rcases Bool.or_eq_true_iff.mp hs with hm | hd
    · obtain ⟨marker, hm⟩ := Option.isSome_iff_exists.mp hm
      obtain ⟨onEos, hexec, -, hshort⟩ := exec_of_marker hst hm
      exact hexec.trans ((markerStep_eos ha he).trans (hshort hk))
    · obtain ⟨next, hexec⟩ := exec_of_readsDigits hst hd
      exact hexec.trans (readNibble_eos ha he)
  | wrongByte hs ha hm =>
    obtain ⟨onEos, hexec, -⟩ := exec_of_marker hst hs
    exact hexec.trans (markerStep_of_ne ha hm)
  | noDigit hs ha hv =>
    obtain ⟨next, hexec⟩ := exec_of_readsDigits hst hs
    exact hexec.trans (readNibble_of_none ha hv)
  | markerByte hs ha hm hk =>
    obtain ⟨onEos, hexec, -⟩ := exec_of_marker hst hs
    exact hexec.trans (markerStep_of_eq ha hm hk)
  | markerDone hs ha hm hk =>
    obtain ⟨onEos, hexec, -⟩ := exec_of_marker hst hs
    exact hexec.trans (markerStep_last ha hm hk)
  | highDigit hs ha hv hk =>
    obtain ⟨done, hexec⟩ := exec_of_readsPairs hst hs
    exact hexec.trans (pairStep_high ha hv hk)
  | wordDigit hs ha hv hk =>
    obtain ⟨done, hexec⟩ := exec_of_readsWord hst hs
    exact hexec.trans (wordStep_of_ne ha hv hk)
  | typeDone hs ha hv hk => exact (exec_of_type (hs ▸ hst) hs).trans (pairStep_low ha hv hk)
  | lengthTooShort hs ha hv hk hlen =>
    rw [exec_of_len (hs ▸ hst) hs, lengthStep, pairStep_low ha hv hk]
    exact if_pos hlen
  | lengthOfNoData hs ha hv hk hlen =>
    rw [exec_of_len (hs ▸ hst) hs, lengthStep, pairStep_low ha hv hk, lengthRead_of_le hlen.ge, if_pos hlen]
    rfl
  | lengthDone hs ha hv hk hlen =>
    rw [exec_of_len (hs ▸ hst) hs, lengthStep, pairStep_low ha hv hk, lengthRead_of_le hlen.le, if_neg hlen.ne']
    rfl
  | payloadByte hs ha hv hk hw hmore =>
    exact (exec_of_payload (hs ▸ hst) hs).trans ((pairStep_stores ha hv hk hw).trans (if_neg hmore))
  | payloadDone hs ha hv hk hw hlast =>
    exact (exec_of_payload (hs ▸ hst) hs).trans ((pairStep_stores ha hv hk hw).trans (if_pos hlast))
  | checksumDone hs ha hv hk => exact (exec_of_cksum (hs ▸ hst) hs).trans (wordStep_last ha hv hk)
  | maskDone hs ha hv hk => exact (exec_of_mval (hs ▸ hst) hs).trans (wordStep_last ha hv hk)
  | verifyPasses hs hn hcrc =>
    rw [exec_of_verify (standsIn_verify_iff.mp (hs ▸ hst)) hs, pipeVerify_of_le hn, compareCrc_atCompare_of_eq hcrc]
  | verifyFails hs hn hcrc =>
    rw [exec_of_verify (standsIn_verify_iff.mp (hs ▸ hst)) hs, pipeVerify_of_le hn, compareCrc_atCompare_of_ne hcrc]
  | deliversPre hs hp hkind hr =>
    rw [exec_of_emit (hs ▸ hst) hs, emitStep_of_some hp, hr, hkind]
    rfl
  | deliversPost hs hp hkind hr =>
    rw [exec_of_emit (hs ▸ hst) hs, emitStep_of_some hp, hr, hkind]
    rfl
  | pads hs hn => exact (exec_of_pad (standsIn_pad_iff.mp (hs ▸ hst)) hs).trans (padStage_of_le hn _)
  | masks hs hn => exact (exec_of_mask (standsIn_mask_iff.mp (hs ▸ hst)) hs).trans (maskStage_of_le hn _)
  | recomputes hs hn => exact (exec_of_recomp (standsIn_recomp_iff.mp (hs ▸ hst)) hs).trans (recomputeStage_of_le hn _)
  | stringByte hi hs ha hv hk hw hmore =>
    rw [hi, exec_of_hexstr hs]
    exact (pairStep_stores ha hv hk hw).trans (if_neg hmore)
  | stringDone hi hs ha hv hk hw hlast =>
    rw [hi, exec_of_hexstr hs]
    exact (pairStep_stores ha hv hk hw).trans (if_pos hlast)

/-! ## Some rule applies -/

/-- Nothing the stage of `s` does can fault: its BUF indices and its record are there. -/
def State.canMove (s : State) : Prop :=
  (s.seq = .payload ∨ s.seq = .hexstr → s.wi < Config.bufSize) ∧
  (s.seq = .verify ∨ s.seq = .pad ∨ s.seq = .mask ∨ s.seq = .recomp → s.fdlen.toNat ≤ Config.bufSize) ∧
  (s.seq = .emit → s.pending ≠ none)

section
variable {i : Instr} {s : State}

theorem exists_moves_of_marker {marker : List Byte} (hm : s.seq.marker? = some marker) : ∃ t, Moves i s t := by
  have hport : s.seq.readsPort = true := by simp [SeqState.readsPort, hm]
  cases ha : s.input.ahead with
  | nil =>
    cases he : s.input.ended with
    | false => exact ⟨_, .waitsForPort hport ha he⟩
    | true =>
      by_cases hend : s.seq = .hdr ∧ s.k = 0
      · exact ⟨_, .endOfStream hend.1 hend.2 ha he⟩
      · exact ⟨_, .shortRead hport (fun hs => Nat.pos_of_ne_zero fun hk => hend ⟨hs, hk⟩) ha he⟩
  | cons c rest =>
    by_cases hc : marker[s.k]? = some c
    · by_cases hk : s.k = 4
      · exact ⟨_, .markerDone hm ha hc hk⟩
      · exact ⟨_, .markerByte hm ha hc hk⟩
    · exact ⟨_, .wrongByte hm ha hc⟩

/-- A stage of digits moves, or a digit stands before it. -/
theorem exists_moves_or_digit (hd : s.seq.readsDigits = true) :
    (∃ t, Moves i s t) ∨ ∃ c rest n, s.input.ahead = c :: rest ∧ hexval c = some n := by
  have hport : s.seq.readsPort = true := Bool.or_eq_true_iff.mpr (.inr hd)
  have hne : s.seq ≠ .hdr := fun h => by simp [h, SeqState.readsDigits, SeqState.readsPairs, SeqState.readsWord] at hd
  cases ha : s.input.ahead with
  | nil =>
    cases he : s.input.ended with
    | false => exact .inl ⟨_, .waitsForPort hport ha he⟩
    | true => exact .inl ⟨_, .shortRead hport (fun hs => absurd hs hne) ha he⟩
  | cons c rest =>
    cases hv : hexval c with
    | none => exact .inl ⟨_, .noDigit hd ha hv⟩
    | some n => exact .inr ⟨c, rest, n, rfl, hv⟩

theorem exists_moves_of_readsPairs (hst : standsIn i s.seq = true) (hcan : s.canMove)
    (hp : s.seq.readsPairs = true) : ∃ t, Moves i s t := by
  obtain ⟨hbuf, -, -⟩ := hcan
  rcases exists_moves_or_digit (i := i) (s := s) (Bool.or_eq_true_iff.mpr (.inl hp)) with h | ⟨c, rest, n, ha, hv⟩
  · exact h
  rcases Nat.mod_two_eq_zero_or_one s.k with hk | hk
  · exact ⟨_, .highDigit hp ha hv hk⟩
  rcases SeqState.readsPairs_iff.mp hp with hs | hs | hs | hs
  · exact ⟨_, .typeDone hs ha hv hk⟩
  · rcases Nat.lt_trichotomy (s.hi ++ n).toNat 4 with hlen | hlen | hlen
    · exact ⟨_, .lengthTooShort hs ha hv hk hlen⟩
    · exact ⟨_, .lengthOfNoData hs ha hv hk hlen⟩
    · exact ⟨_, .lengthDone hs ha hv hk hlen⟩
  · have hw : s.wi < Config.bufSize := hbuf (.inl hs)
    by_cases hlast : s.wi + 1 = s.fdlen.toNat
    · exact ⟨_, .payloadDone hs ha hv hk hw hlast⟩
    · exact ⟨_, .payloadByte hs ha hv hk hw hlast⟩
  · have hw : s.wi < Config.bufSize := hbuf (.inr hs)
    obtain ⟨len, cap, hi⟩ := standsIn_hexstr_iff.mp (hs ▸ hst)
    by_cases hlast : s.wi + 1 = len.toNat / 2
    · exact ⟨_, .stringDone hi hs ha hv hk hw hlast⟩
    · exact ⟨_, .stringByte hi hs ha hv hk hw hlast⟩

theorem exists_moves_of_readsWord (hw : s.seq.readsWord = true) : ∃ t, Moves i s t := by
  rcases exists_moves_or_digit (i := i) (s := s) (Bool.or_eq_true_iff.mpr (.inr hw)) with h | ⟨c, rest, n, ha, hv⟩
  · exact h
  by_cases hk : s.k = 7
  · rcases SeqState.readsWord_iff.mp hw with hs | hs
    · exact ⟨_, .checksumDone hs ha hv hk⟩
    · exact ⟨_, .maskDone hs ha hv hk⟩
  · exact ⟨_, .wordDigit hw ha hv hk⟩

theorem exists_moves_of_emit {p : Snapshot} (hs : s.seq = .emit) (hp : s.pending = some p) : ∃ t, Moves i s t := by
  cases hr : s.sinkReady with
  | false => exact ⟨_, .waitsForSink hs hp hr⟩
  | true =>
    cases hkind : p.kind with
    | pre => exact ⟨_, .deliversPre hs hp hkind hr⟩
    | post => exact ⟨_, .deliversPost hs hp hkind hr⟩

theorem exists_moves (hst : standsIn i s.seq = true) (hcan : s.canMove) : ∃ t, Moves i s t := by
  have ⟨_, hlen, hpending⟩ := hcan
  cases hs : s.seq with
  | hdr => exact exists_moves_of_marker (SeqState.marker?_eq_some_iff.mpr (.inl ⟨hs, rfl⟩))
  | mhdr => exact exists_moves_of_marker (SeqState.marker?_eq_some_iff.mpr (.inr ⟨hs, rfl⟩))
  | type | len | payload | hexstr => exact exists_moves_of_readsPairs hst hcan (by rw [hs]; rfl)
  | cksum | mval => exact exists_moves_of_readsWord (by rw [hs]; rfl)
  | verify =>
    have hn : s.fdlen.toNat ≤ Config.bufSize := hlen (by simp [hs])
    by_cases hcrc : crc32 (s.buf.bytes s.fdlen.toNat) = s.fcrc
    · exact ⟨_, .verifyPasses hs hn hcrc⟩
    · exact ⟨_, .verifyFails hs hn hcrc⟩
  | pad => exact ⟨_, .pads hs (hlen (by simp [hs]))⟩
  | mask => exact ⟨_, .masks hs (hlen (by simp [hs]))⟩
  | recomp => exact ⟨_, .recomputes hs (hlen (by simp [hs]))⟩
  | emit =>
    obtain ⟨p, hp⟩ := Option.ne_none_iff_exists'.mp (hpending hs)
    exact exists_moves_of_emit hs hp
  | idle | exec => simp [hs] at hst

end

end Sys2Proof.Machine
end

section
/-!
PROOFS. Statements that are rules of a block step: the digits of a hex field, ReadLength, and EMIT
(41_hex_codec.md R113, 43_frame_decoder.md R163, 45_pipeline.md R211).
-/

namespace Sys2Proof.Machine

theorem readsPort_of_readsDigits {st : SeqState} (h : st.readsDigits = true) : st.readsPort = true :=
  Bool.or_eq_true_iff.mpr (.inr h)

/-- The hex fields by stage: which commands read them, and with which error at end-of-input. -/
theorem hexField_stage {i : Instr} {st : SeqState} {short : ErrKind}
    (h : ((st = .type ∨ st = .len ∨ st = .cksum) ∧ short = .conversion ∧ (i = .frmDecode ∨ i = .frmOne ∨ i = .frmRun)) ∨
      (st = .payload ∧ short = .unexpectedLength ∧ (i = .frmDecode ∨ i = .frmOne ∨ i = .frmRun)) ∨
      (st = .mval ∧ short = .conversion ∧ (i = .frmMaskrd ∨ i = .frmOne ∨ i = .frmRun)) ∨
      (st = .hexstr ∧ short = .unexpectedLength ∧ ∃ len cap, i = .hexDstr len cap)) :
    standsIn i st = true ∧ st.readsDigits = true ∧ short = st.shortKind := by
  rcases h with ⟨hs, rfl, hi⟩ | ⟨rfl, rfl, hi⟩ | ⟨rfl, rfl, hi⟩ | ⟨rfl, rfl, hi⟩
  · rcases hs with rfl | rfl | rfl
    · exact ⟨standsIn_type_iff.mpr hi, rfl, rfl⟩
    · exact ⟨standsIn_len_iff.mpr hi, rfl, rfl⟩
    · exact ⟨standsIn_cksum_iff.mpr hi, rfl, rfl⟩
  · exact ⟨standsIn_payload_iff.mpr hi, rfl, rfl⟩
  · exact ⟨standsIn_mval_iff.mpr hi, rfl, rfl⟩
  · exact ⟨standsIn_hexstr_iff.mpr hi, rfl, rfl⟩

/-- Settles O28: each clause is one rule, in every stage that reads digits. -/
theorem hexFieldsWaitOrFailAtTheFirstBadCharacter : Obligations.HexFieldsWaitOrFailAtTheFirstBadCharacter := by
  intro i s short hfield
  obtain ⟨hst, hd, rfl⟩ := hexField_stage hfield
  have hport : s.seq.readsPort = true := readsPort_of_readsDigits hd
  refine ⟨fun ha he => ?waits, fun ha he => ?short, fun c rest ha hv => ?bad, fun c rest n ha hv hs hk => ?high,
    fun c rest n ha hv hs hk => ?nibble⟩
  case waits => exact exec_of_moves hst (.waitsForPort hport ha he)
  case short =>
    have hne : s.seq ≠ .hdr := fun h => by rw [h] at hd; cases hd
    exact exec_of_moves hst (.shortRead hport (fun h => absurd h hne) ha he)
  case bad => exact exec_of_moves hst (.noDigit hd ha hv)
  case high => exact exec_of_moves hst (.highDigit (SeqState.readsPairs_iff.mpr hs) ha hv hk)
  case nibble => exact exec_of_moves hst (.wordDigit (SeqState.readsWord_iff.mpr hs) ha hv (Nat.ne_of_lt hk))

/-- Taking 4 from a length of 4 or more does not wrap (43_frame_decoder.md R163). -/
theorem toNat_sub_four {v : Byte} (h : 4 ≤ v.toNat) : (v - 4#8).toNat = v.toNat - 4 := by bv_omega

/-- Settles O30: the three rules of a length, below 4, at 4 and above. -/
theorem readLengthRejectsLengthsBelowFour : Obligations.ReadLengthRejectsLengthsBelowFour := by
  rintro i s c rest n v hi hs hk ha hv rfl
  have hst : standsIn i s.seq = true := hs ▸ standsIn_len_iff.mpr hi
  have hodd : s.k % 2 = 1 := by rw [hk]
  refine ⟨fun hlen => ?tooShort, fun hlen => ?legal⟩
  case tooShort =>
    rw [exec_of_moves hst (.lengthTooShort hs ha hv hodd hlen), hk]
    rfl
  case legal =>
    have hfdlen : ((s.hi ++ n) - 4#8).toNat = (s.hi ++ n).toNat - 4 := toNat_sub_four hlen
    have hle : ((s.hi ++ n) - 4#8).toNat ≤ 251 := by have := (s.hi ++ n).isLt; omega
    rcases hlen.eq_or_lt' with hfour | hmore
    · exact ⟨_, exec_of_moves hst (.lengthOfNoData hs ha hv hodd hfour), rfl, hfdlen, hle, by simp [hfour], rfl⟩
    · exact ⟨_, exec_of_moves hst (.lengthDone hs ha hv hodd hmore), rfl, hfdlen, hle, by simp [hmore.ne'], rfl⟩

/-- Settles O37: the three rules of EMIT, and what a completed frame leads to in each command. -/
theorem emitWaitsForTheSinkThenGoesOn : Obligations.EmitWaitsForTheSinkThenGoesOn := by
  intro i s p hi hs hp
  have hst : standsIn i s.seq = true := hs ▸ standsIn_emit_iff.mpr hi
  refine ⟨fun hr => exec_of_moves hst (.waitsForSink hs hp hr),
    fun hr hkind => exec_of_moves hst (.deliversPre hs hp hkind hr), ?_, ?_⟩
  · rintro hr hkind rfl
    exact exec_of_moves hst (.deliversPost hs hp hkind hr)
  · rintro hr hkind rfl
    exact exec_of_moves hst (.deliversPost hs hp hkind hr)

end Sys2Proof.Machine
end

section
/-!
PROOFS. What the rules of a block step write and what they leave unchanged, and that they keep the invariant
(10_state.md, sections 2 to 4, 60_exceptions.md R240, R245).
-/

namespace Sys2Proof.Machine

/-! ## Stages and errors -/

/-- The kinds of error with the states they are latched with (60_exceptions.md R240). -/
def errorPairs : List (ErrKind × SeqState) :=
  [(.frameFormat, .hdr), (.frameFormat, .len), (.frameFormat, .mhdr), (.conversion, .exec), (.conversion, .type),
    (.conversion, .len), (.conversion, .cksum), (.conversion, .mval), (.conversion, .payload), (.conversion, .hexstr),
    (.unexpectedLength, .payload), (.unexpectedLength, .hexstr), (.checksum, .verify), (.invalidLength, .exec),
    (.bufferTooSmall, .exec), (.illegalCommand, .exec)]

theorem ne_idle_of_mem_errorPairs {e : ErrKind} {st : SeqState} (h : (e, st) ∈ errorPairs) : st ≠ .idle := by
  rintro rfl
  simp [errorPairs] at h

theorem shortKind_mem_errorPairs {st : SeqState} (h : st.readsPort = true) : (st.shortKind, st) ∈ errorPairs := by
  revert h
  cases st <;> decide

theorem frameFormat_mem_errorPairs {st : SeqState} {marker : List Byte} (h : st.marker? = some marker) :
    (.frameFormat, st) ∈ errorPairs := by
  rcases SeqState.marker?_eq_some_iff.mp h with ⟨rfl, -⟩ | ⟨rfl, -⟩ <;> decide

theorem conversion_mem_errorPairs {st : SeqState} (h : st.readsDigits = true) : (.conversion, st) ∈ errorPairs := by
  revert h
  cases st <;> decide

theorem standsIn_afterMarker {i : Instr} {st : SeqState} {marker : List Byte} (hst : standsIn i st = true)
    (hm : st.marker? = some marker) : standsIn i st.afterMarker = true := by
  rcases SeqState.marker?_eq_some_iff.mp hm with ⟨rfl, -⟩ | ⟨rfl, -⟩
  · exact standsIn_type_iff.mpr (standsIn_hdr_iff.mp hst)
  · exact standsIn_mval_iff.mpr (standsIn_mhdr_iff.mp hst)

/-- No stage that reads input is EMIT. -/
theorem ne_emit_of_readsPort {st : SeqState} (h : st.readsPort = true) : st ≠ .emit := by
  rintro rfl
  cases h

theorem readsPort_of_marker {st : SeqState} {marker : List Byte} (h : st.marker? = some marker) :
    st.readsPort = true := by
  simp [SeqState.readsPort, h]

theorem readsPort_of_readsPairs {st : SeqState} (h : st.readsPairs = true) : st.readsPort = true :=
  readsPort_of_readsDigits (Bool.or_eq_true_iff.mpr (.inl h))

theorem readsPort_of_readsWord {st : SeqState} (h : st.readsWord = true) : st.readsPort = true :=
  readsPort_of_readsDigits (Bool.or_eq_true_iff.mpr (.inr h))

/-! ## What the rules write -/

section
variable {i : Instr} {s t : State}

/-- No rule writes what the environment drives or records, nor the accepted word. -/
theorem Moves.keeps (h : Moves i s t) :
    t.cur = s.cur ∧ t.env = s.env ∧ t.rst = s.rst ∧ t.draws = s.draws ∧ t.reads = s.reads ∧
      t.sinkReady = s.sinkReady := by
  cases h with
  | checksumDone | maskDone | deliversPost => simp
  | _ => exact ⟨rfl, rfl, rfl, rfl, rfl, rfl⟩

/-- After a rule the command runs on in one of its stages, has finished, or has raised an error of the list and has
delivered nothing. -/
theorem Moves.outcome (h : Moves i s t) (hst : standsIn i s.seq = true) :
    (t.status = s.status ∧ t.errcode = s.errcode ∧ standsIn i t.seq = true) ∨
    (t.seq = .idle ∧ t.errcode = s.errcode ∧
      (t.status = s.status.finished ∨ t.status = s.status.atEndOfStream.finished)) ∨
    ∃ e st, (e, st) ∈ errorPairs ∧ t.status = s.status.errored st ∧ t.errcode = some e ∧ t.seq = .idle ∧
      t.delivered = s.delivered ∧ t.frames = s.frames := by
  have hends (ends : Prop) [Decidable ends] (r : Word) (st : SeqState) (u : State) (hu : u.status = s.status)
      (he : u.errcode = s.errcode) (hon : ¬ends → standsIn i st = true) :
      ((finishOr ends r st u).status = s.status ∧ (finishOr ends r st u).errcode = s.errcode ∧
        standsIn i (finishOr ends r st u).seq = true) ∨
      ((finishOr ends r st u).seq = .idle ∧ (finishOr ends r st u).errcode = s.errcode ∧
        ((finishOr ends r st u).status = s.status.finished ∨
          (finishOr ends r st u).status = s.status.atEndOfStream.finished)) := by
    rcases finishOr_cases ends r st u with ⟨-, heq⟩ | ⟨hgo, heq⟩ <;> rw [heq]
    · exact .inr ⟨rfl, he, .inl (congrArg Status.finished hu)⟩
    · exact .inl ⟨hu, he, hon hgo⟩
  cases h with
  | waitsForPort | waitsForSink | markerByte | highDigit | wordDigit | payloadByte | stringByte =>
    exact .inl ⟨rfl, rfl, hst⟩
  | markerDone hs => exact .inl ⟨rfl, rfl, standsIn_afterMarker hst hs⟩
  | typeDone hs => exact .inl ⟨rfl, rfl, standsIn_len_iff.mpr (standsIn_type_iff.mp (hs ▸ hst))⟩
  | lengthOfNoData hs => exact .inl ⟨rfl, rfl, standsIn_cksum_iff.mpr (standsIn_len_iff.mp (hs ▸ hst))⟩
  | lengthDone hs => exact .inl ⟨rfl, rfl, standsIn_payload_iff.mpr (standsIn_len_iff.mp (hs ▸ hst))⟩
  | payloadDone hs => exact .inl ⟨rfl, rfl, standsIn_cksum_iff.mpr (standsIn_payload_iff.mp (hs ▸ hst))⟩
  | verifyPasses hs => exact .inl ⟨rfl, rfl, standsIn_emit_iff.mpr (standsIn_verify_iff.mp (hs ▸ hst))⟩
  | deliversPre hs => exact .inl ⟨rfl, rfl, standsIn_pad_iff.mpr (standsIn_emit_iff.mp (hs ▸ hst))⟩
  | pads hs => exact .inl ⟨rfl, rfl, standsIn_mask_iff.mpr (standsIn_pad_iff.mp (hs ▸ hst))⟩
  | masks hs => exact .inl ⟨rfl, rfl, standsIn_recomp_iff.mpr (standsIn_mask_iff.mp (hs ▸ hst))⟩
  | recomputes hs => exact .inl ⟨rfl, rfl, standsIn_emit_iff.mpr (standsIn_recomp_iff.mp (hs ▸ hst))⟩
  | checksumDone hs =>
    have hi := standsIn_cksum_iff.mp (hs ▸ hst)
    exact (hends _ _ _ _ (by rfl) (by rfl) fun hne => standsIn_mhdr_iff.mpr (.inr (hi.resolve_left hne))).imp_right .inl
  | maskDone hs =>
    have hi := standsIn_mval_iff.mp (hs ▸ hst)
    exact (hends _ _ _ _ (by rfl) (by rfl) fun hne => standsIn_verify_iff.mpr (hi.resolve_left hne)).imp_right .inl
  | deliversPost hs =>
    have hi := standsIn_emit_iff.mp (hs ▸ hst)
    exact (hends _ _ _ _ (by rfl) (by rfl) fun _ => standsIn_hdr_iff.mpr (.inr hi)).imp_right .inl
  | endOfStream => exact .inr (.inl ⟨rfl, rfl, .inr rfl⟩)
  | stringDone => exact .inr (.inl ⟨rfl, rfl, .inl rfl⟩)
  | shortRead hs => exact .inr (.inr ⟨_, _, shortKind_mem_errorPairs hs, rfl, rfl, rfl, rfl, rfl⟩)
  | wrongByte hs => exact .inr (.inr ⟨_, _, frameFormat_mem_errorPairs hs, rfl, rfl, rfl, rfl, rfl⟩)
  | noDigit hs => exact .inr (.inr ⟨_, _, conversion_mem_errorPairs hs, rfl, rfl, rfl, rfl, rfl⟩)
  | lengthTooShort => exact .inr (.inr ⟨_, _, by decide, rfl, rfl, rfl, rfl, rfl⟩)
  | verifyFails => exact .inr (.inr ⟨_, _, by decide, rfl, rfl, rfl, rfl, rfl⟩)

/-- A record waits exactly in EMIT, before a rule and after it (10_state.md R50). -/
theorem Moves.pending_iff (h : Moves i s t) (hp : s.pending ≠ none ↔ s.seq = .emit) :
    t.pending ≠ none ↔ t.seq = .emit := by
  have hgone {st u : SeqState} (hne : st ≠ .emit) (hs : s.seq = st) (hu : u ≠ .emit) :
      s.pending ≠ none ↔ u = .emit := by simp [hp, hs, hne, hu]
  have hends (ends : Prop) [Decidable ends] (r : Word) {st : SeqState} (u : State) (hst : st ≠ .emit)
      (hu : u.pending = none) : (finishOr ends r st u).pending ≠ none ↔ (finishOr ends r st u).seq = .emit := by
    rcases finishOr_cases ends r st u with ⟨-, heq⟩ | ⟨-, heq⟩ <;> simp [heq, hu, hst]
  have hnone (hs : s.seq ≠ .emit) : s.pending = none := by
    by_contra hsome
    exact hs (hp.mp hsome)
  cases h with
  | waitsForPort | waitsForSink | markerByte | highDigit | wordDigit | payloadByte | stringByte => exact hp
  | verifyPasses | recomputes => simp [callEmit]
  | deliversPre => simp
  | deliversPost => exact hends _ _ _ (by decide) rfl
  | checksumDone hs => exact hends _ _ _ (by decide) (hnone (by simp [hs]))
  | maskDone hs => exact hends _ _ _ (by decide) (hnone (by simp [hs]))
  | markerDone hs =>
    refine hgone (ne_emit_of_readsPort (readsPort_of_marker hs)) rfl ?_
    unfold SeqState.afterMarker
    split <;> simp
  | shortRead hs => exact hgone (ne_emit_of_readsPort hs) rfl (by simp)
  | wrongByte hs => exact hgone (ne_emit_of_readsPort (readsPort_of_marker hs)) rfl (by simp)
  | noDigit hs => exact hgone (ne_emit_of_readsPort (readsPort_of_readsDigits hs)) rfl (by simp)
  | endOfStream hs | typeDone hs | lengthTooShort hs | lengthOfNoData hs | lengthDone hs | payloadDone hs
  | verifyFails hs | pads hs | masks hs => exact hgone (by decide) hs (by simp)
  | stringDone _ hs => exact hgone (by decide) hs (by simp)

/-! ## The rules keep the invariant -/

theorem Moves.buf_wf (h : Moves i s t) (hwf : s.buf.wf) : t.buf.wf := by
  cases h with
  | payloadByte _ _ _ _ hw | payloadDone _ _ _ _ hw | stringByte _ _ _ _ _ hw | stringDone _ _ _ _ _ hw =>
    exact Memory.wf_write hwf hw _
  | checksumDone | maskDone | deliversPost => simpa using hwf
  | pads hs hn =>
    refine Memory.wf_zeroFill hwf ?_
    rw [Nat.add_sub_cancel' (le_roundup4 _)]
    exact roundup4_le hn
  | masks hs hn =>
    refine Memory.wf_foldl_maskWord hwf fun j hj => ?_
    have hlt : j < s.fdlen.toNat / 4 := (mem_maskedWords.mp hj).2
    omega
  | _ => exact hwf

theorem Moves.fdlen_le (h : Moves i s t) (hn : s.fdlen.toNat ≤ Config.bufSize) : t.fdlen.toNat ≤ Config.bufSize := by
  have hlength {v : Byte} (hlen : 4 ≤ v.toNat) : (v - 4#8).toNat ≤ Config.bufSize := by
    rw [toNat_sub_four hlen, Config.bufSize]
    omega
  cases h with
  | lengthOfNoData _ _ _ _ hlen => exact hlength hlen.ge
  | lengthDone _ _ _ _ hlen => exact hlength hlen.le
  | pads => exact (toNat_fdlen_afterPad hn).trans_le (roundup4_le hn)
  | checksumDone | maskDone | deliversPost => simpa using hn
  | _ => exact hn

theorem stageInv_of_idle (hs : s.seq = .idle) : s.stageInv := by simp [State.stageInv, hs]

/-- A stage begins with an empty field; a field of pairs needs its first index besides. -/
theorem stageInv_enter {st : SeqState} (hp : st ≠ .payload) (hh : st ≠ .hexstr) : (enter st s).stageInv := by
  cases st <;> simp_all [State.stageInv]

theorem stageInv_finishOr {ends : Prop} [Decidable ends] {r : Word} {st : SeqState} (hp : st ≠ .payload)
    (hh : st ≠ .hexstr) : (finishOr ends r st s).stageInv := by
  rcases finishOr_cases ends r st s with ⟨-, heq⟩ | ⟨-, heq⟩ <;> rw [heq]
  · exact stageInv_of_idle rfl
  · exact stageInv_enter hp hh

/-- The working registers fit the stage after a rule, as they did before it (10_state.md R41). -/
theorem Moves.stageInv (h : Moves i s t) (hd : decode s.cur = .ok i) (hinv : s.stageInv) : t.stageInv := by
  cases h with
  | waitsForPort | waitsForSink => exact hinv
  | endOfStream | shortRead | wrongByte | noDigit | lengthTooShort | verifyFails | stringDone =>
    exact stageInv_of_idle rfl
  | markerByte hs _ _ hk =>
    rcases SeqState.marker?_eq_some_iff.mp hs with ⟨hs, -⟩ | ⟨hs, -⟩ <;>
      simp [State.stageInv, hs] at hinv ⊢ <;> omega
  | markerDone hs =>
    rcases SeqState.marker?_eq_some_iff.mp hs with ⟨hs, -⟩ | ⟨hs, -⟩ <;> rw [hs] <;>
      exact stageInv_enter (by decide) (by decide)
  | highDigit hs _ _ hk =>
    rcases SeqState.readsPairs_iff.mp hs with hs | hs | hs | hs <;> simp [State.stageInv, hs] at hinv ⊢ <;> omega
  | wordDigit hs _ _ hk =>
    rcases SeqState.readsWord_iff.mp hs with hs | hs <;> simp [State.stageInv, hs] at hinv ⊢ <;> omega
  | typeDone | lengthOfNoData | payloadDone | deliversPre | pads | masks =>
    exact stageInv_enter (by decide) (by decide)
  | lengthDone _ _ _ _ hlen =>
    have hfdlen := toNat_sub_four hlen.le
    exact ⟨hfdlen ▸ Nat.sub_pos_of_lt hlen, Nat.zero_div 2⟩
  | payloadByte hs _ _ hk _ hmore =>
    simp [State.stageInv, storedPair, hs] at hinv ⊢
    omega
  | checksumDone | maskDone | deliversPost => exact stageInv_finishOr (by decide) (by decide)
  | verifyPasses | recomputes => simp [State.stageInv, callEmit]
  | stringByte hi hs _ _ hk _ hmore =>
    subst hi
    have hlen : lenField s.cur = _ := (eq_formatS_word_iff.mp (decode_eq_ok_hexDstr_iff.mp hd).2).2.2.2
    simp [State.stageInv, storedPair, hs, hlen] at hinv ⊢
    omega

end

/-- Under the invariant nothing faults in the stage that is reached. -/
theorem State.Inv.canMove {s : State} {i : Instr} (hinv : s.Inv) (hd : decode s.cur = .ok i)
    (hst : standsIn i s.seq = true) : s.canMove := by
  obtain ⟨-, hn, -, hstage, ⟨-, -, hpending⟩, -⟩ := hinv
  refine ⟨?_, fun _ => hn, hpending.mpr⟩
  rintro (hs | hs)
  · simp only [State.stageInv, hs] at hstage
    omega
  · obtain ⟨len, cap, rfl⟩ := standsIn_hexstr_iff.mp (hs ▸ hst)
    obtain ⟨hcap, hw⟩ := decode_eq_ok_hexDstr_iff.mp hd
    have hfield : capField s.cur = cap := (eq_formatS_word_iff.mp hw).2.1
    simp only [State.stageInv, hs, hfield] at hstage
    omega

/-- Under the invariant a running command has a step, and the step is one of the rules. -/
theorem State.Inv.exists_moves {s : State} (hinv : s.Inv) (hbusy : s.status.busy = true) :
    ∃ i t, decode s.cur = .ok i ∧ standsIn i s.seq = true ∧ blockStep s = .next t ∧ Moves i s t := by
  have ⟨_, _, _, _, ⟨_, hrunning, _⟩, _⟩ := hinv
  obtain ⟨i, hd, hst⟩ := hrunning hbusy
  obtain ⟨t, ht⟩ := Machine.exists_moves hst (hinv.canMove hd hst)
  exact ⟨i, t, hd, hst, (blockStep_of_busy hbusy hd).trans (exec_of_moves hst ht), ht⟩

/-- Under the invariant a block step is one of the rules, or the block is idle and does nothing. -/
theorem State.Inv.blockStep_cases {s t : State} (hinv : s.Inv) (h : blockStep s = .next t) :
    (s.status.busy = false ∧ t = s) ∨
    (s.status.busy = true ∧ ∃ i, decode s.cur = .ok i ∧ standsIn i s.seq = true ∧ Moves i s t) := by
  cases hbusy : s.status.busy with
  | false => exact .inl ⟨rfl, (Host.Outcome.next.inj ((blockStep_of_idle hbusy).symm.trans h)).symm⟩
  | true =>
    obtain ⟨i, u, hd, hst, hu, hm⟩ := hinv.exists_moves hbusy
    obtain rfl : u = t := Host.Outcome.next.inj (hu.symm.trans h)
    exact .inr ⟨rfl, i, hd, hst, hm⟩

/-- A running block is not held by `rst`. -/
theorem State.Inv.rst_of_busy {s : State} (hinv : s.Inv) (hbusy : s.status.busy = true) : s.rst = false := by
  obtain ⟨-, -, -, -, -, hheld⟩ := hinv
  refine Bool.eq_false_iff.mpr fun hrst => ?_
  rw [← hheld hrst] at hbusy
  cases hbusy

/-- Every rule keeps the invariant. -/
theorem Moves.inv {i : Instr} {s t : State} (h : Moves i s t) (hinv : s.Inv) (hbusy : s.status.busy = true)
    (hd : decode s.cur = .ok i) (hst : standsIn i s.seq = true) : t.Inv := by
  have hrst : s.rst = false := hinv.rst_of_busy hbusy
  obtain ⟨hbuf, hn, ⟨herrcode, herrstate, -, heosf, hflags⟩, hstage, ⟨-, -, hpending⟩, -⟩ := hinv
  obtain ⟨hcur, -, hkeepsRst, -⟩ := h.keeps
  obtain ⟨hdone, herr⟩ := hflags hbusy
  have hseq : t.flagsInv ∧ (t.status.busy = false → t.seq = .idle) ∧
      (t.status.busy = true → ∃ j, decode t.cur = .ok j ∧ standsIn j t.seq = true) := by
    rcases h.outcome hst with ⟨hs, he, hon⟩ | ⟨hidle, he, hs | hs⟩ | ⟨e, st, hmem, hs, he, hidle, -, -⟩
    · refine ⟨?_, by simp [hs, hbusy], fun _ => ⟨i, by rw [hcur, hd], hon⟩⟩
      simp_all [State.flagsInv]
    · simp_all [State.flagsInv]
    · simp_all [State.flagsInv]
    · have hne := ne_idle_of_mem_errorPairs hmem
      simp_all [State.flagsInv]
  obtain ⟨hflags, hidle, hrunning⟩ := hseq
  exact ⟨h.buf_wf hbuf, h.fdlen_le hn, hflags, h.stageInv hd hstage, ⟨hidle, hrunning, h.pending_iff hpending⟩,
    fun hheld => absurd (hkeepsRst.symm.trans hheld) (by simp [hrst])⟩

end Sys2Proof.Machine
end

section
/-!
PROOFS. What a command can do in the step that accepts it, what a step of the machine can do, and that every step keeps
the invariant (46_control.md R230 to R238, 10_state.md, sections 2 to 4).
-/

namespace Sys2Proof.Machine

/-! ## The accepting step -/

/-- What the command `i` can do in the step that accepts it, where `s` is the state of acceptance (46_control.md R231).
CLEAR and SRESET have their own rules in `Steps`. -/
inductive Begins (i : Instr) (s : State) : State → Prop
  /-- A command that reads no input computes and finishes. -/
  | computes {result crcreg fcrc : Word} {fdlen : Byte} {buf : Memory} {seq : SeqState} (hbuf : s.buf.wf → buf.wf)
    (hn : fdlen.toNat ≤ Config.bufSize) : Begins i s (finish { s with
      result := result, crcreg := crcreg, fcrc := fcrc, fdlen := fdlen, buf := buf, seq := seq })
  /-- A check fails (41_hex_codec.md R115, R117). -/
  | fails {e : ErrKind} (he : (e, .exec) ∈ errorPairs) : Begins i s (raiseError e .exec s)
  /-- XF.VERIFY fails (44_transform.md R190). -/
  | verifyFails {r : Word} : Begins i s (raiseError .checksum .verify (atCompare r s))
  /-- End-of-input before the first header (70_reset_and_hazards.md R288). -/
  | endOfStream {result nf : Word} (hst : standsIn i .hdr = true) (ha : s.input.ahead = [])
    (he : s.input.ended = true) : Begins i s (finish { enter .hdr s with
      status := s.status.atEndOfStream, result := result, nf := nf })
  /-- The first header is expected (43_frame_decoder.md R161). -/
  | expectsHeader {nf : Word} (hst : standsIn i .hdr = true) : Begins i s { enter .hdr s with nf := nf }
  /-- The mask is expected (43_frame_decoder.md R171). -/
  | expectsMask (hi : i = .frmMaskrd) : Begins i s (enter .mhdr s)
  /-- The characters of HEX.DSTR are expected (41_hex_codec.md R117). -/
  | expectsString {len : BitVec 10} {cap : Byte} (hi : i = .hexDstr len cap) (hlen : 0 < len.toNat / 2)
    (hcap : len.toNat / 2 ≤ cap.toNat) : Begins i s { enter .hexstr s with wi := 0 }

/-- HEX.DSTR starts with its checks (41_hex_codec.md R117). -/
theorem exec_hexDstr_of_exec {len : BitVec 10} {cap : Byte} {s : State} (hs : s.seq = .exec) :
    exec (.hexDstr len cap) s = dstrStart len cap s := by
  simp only [exec, execHexDstr, hs]

/-- The checks of HEX.DSTR on a legal capacity, in their order (41_hex_codec.md R117). -/
theorem dstrStart_of_le {len : BitVec 10} {cap : Byte} (hcap : cap.toNat ≤ Config.bufSize) (s : State) :
    dstrStart len cap s =
      if len.toNat % 2 = 1 then .next (raiseError .invalidLength .exec s)
      else if cap.toNat < len.toNat / 2 then .next (raiseError .bufferTooSmall .exec s)
      else if len.toNat = 0 then dstrDone len s
      else .next { enter .hexstr s with wi := 0 } := if_neg (Nat.not_lt.mpr hcap)

/-- A header is expected, or the stream has ended before it. -/
theorem beginHeader_of_eos {onEos : State → Out} {s : State} (ha : s.input.ahead = []) (he : s.input.ended = true) :
    beginHeader onEos s = onEos (enter .hdr s) := by
  simp [beginHeader, atEndOfInput, ha, he]

theorem beginHeader_of_open {onEos : State → Out} {s : State} (h : ¬(s.input.ahead = [] ∧ s.input.ended = true)) :
    beginHeader onEos s = .next (enter .hdr s) := by
  simp [beginHeader, atEndOfInput, h]

/-- The commands that read a header begin with it (43_frame_decoder.md R160, 45_pipeline.md R212, R214). -/
theorem exec_header_of_exec {i : Instr} {s : State} (hst : standsIn i .hdr = true) (hs : s.seq = .exec) :
    exec i s = beginHeader (endAtEos i) (if i = .frmDecode then s else { s with nf := 0#32 }) := by
  rcases standsIn_hdr_iff.mp hst with rfl | rfl | rfl
  · simp only [exec, execFrmDecode, hs]
    rfl
  · simp only [exec, execFrmOne, iterationStep, hs]
    rfl
  · simp only [exec, execFrmRun, iterationStep, hs]
    rfl

theorem exec_frmMaskrd_of_exec {s : State} (hs : s.seq = .exec) : exec .frmMaskrd s = .next (enter .mhdr s) := by
  simp only [exec, execFrmMaskrd, hs]

section
variable {s : State}

theorem exists_begins_hexDpair (chi clo : Byte) (hn : s.fdlen.toNat ≤ Config.bufSize) :
    ∃ t, exec (.hexDpair chi clo) s = .next t ∧ Begins (.hexDpair chi clo) s t := by
  cases h : decodeHexPair chi clo with
  | none => exact ⟨_, exec_hexDpair_of_none h s, .fails (by decide)⟩
  | some b => exact ⟨_, exec_hexDpair_of_some h s, .computes id hn⟩

theorem exists_begins_hexDstr {len : BitVec 10} {cap : Byte} (hs : s.seq = .exec)
    (hn : s.fdlen.toNat ≤ Config.bufSize) (hcap : cap.toNat ≤ Config.bufSize) :
    ∃ t, exec (.hexDstr len cap) s = .next t ∧ Begins (.hexDstr len cap) s t := by
  rw [exec_hexDstr_of_exec hs, dstrStart_of_le hcap]
  split
  · exact ⟨_, rfl, .fails (by decide)⟩
  split
  · exact ⟨_, rfl, .fails (by decide)⟩
  split
  · exact ⟨_, rfl, .computes id hn⟩
  · exact ⟨_, rfl, .expectsString rfl (by omega) (by omega)⟩

theorem exists_begins_xfVerify (hn : s.fdlen.toNat ≤ Config.bufSize) :
    ∃ t, exec .xfVerify s = .next t ∧ Begins .xfVerify s t := by
  rw [exec_xfVerify_of_le hn]
  by_cases hcrc : crc32 (s.buf.bytes s.fdlen.toNat) = s.fcrc
  · exact ⟨_, compareCrc_atCompare_of_eq hcrc _ _, .computes id hn⟩
  · exact ⟨_, compareCrc_atCompare_of_ne hcrc _ _, .verifyFails⟩

theorem exists_begins_xfPad (hn : s.fdlen.toNat ≤ Config.bufSize) :
    ∃ t, exec .xfPad s = .next t ∧ Begins .xfPad s t := by
  refine ⟨_, exec_xfPad_of_le hn, .computes (fun hwf => Memory.wf_zeroFill hwf ?_) ?_⟩
  · rw [Nat.add_sub_cancel' (le_roundup4 _)]
    exact roundup4_le hn
  · exact (toNat_fdlen_afterPad hn).trans_le (roundup4_le hn)

theorem exists_begins_xfMask (hn : s.fdlen.toNat ≤ Config.bufSize) :
    ∃ t, exec .xfMask s = .next t ∧ Begins .xfMask s t := by
  refine ⟨_, exec_xfMask_of_le hn, .computes (fun hwf => Memory.wf_foldl_maskWord hwf fun j hj => ?_) hn⟩
  have hlt : j < s.fdlen.toNat / 4 := (mem_maskedWords.mp hj).2
  omega

theorem exists_begins_header {i : Instr} (hst : standsIn i .hdr = true) (hs : s.seq = .exec) :
    ∃ t, exec i s = .next t ∧ Begins i s t := by
  rw [exec_header_of_exec hst hs]
  by_cases hend : s.input.ahead = [] ∧ s.input.ended = true
  · have ⟨ha, he⟩ := hend
    split
    · exact ⟨_, beginHeader_of_eos ha he, .endOfStream hst ha he⟩
    · exact ⟨_, beginHeader_of_eos (s := { s with nf := 0#32 }) ha he, .endOfStream hst ha he⟩
  · split
    · exact ⟨_, beginHeader_of_open hend, .expectsHeader hst⟩
    · exact ⟨_, beginHeader_of_open (s := { s with nf := 0#32 }) hend, .expectsHeader hst⟩

/-- A legal command that is accepted begins in one of the ways of `Begins`. -/
theorem exists_begins {i : Instr} (hs : s.seq = .exec) (hn : s.fdlen.toNat ≤ Config.bufSize)
    (hlegal : i.wellFormed = true) (hclear : i ≠ .clear) (hsreset : i ≠ .sreset) :
    ∃ t, exec i s = .next t ∧ Begins i s t := by
  cases i with
  | clear => exact absurd rfl hclear
  | sreset => exact absurd rfl hsreset
  | nop | hexEpair | crcInit | crcByte | crcFinal => exact ⟨_, rfl, .computes id hn⟩
  | hexDpair chi clo => exact exists_begins_hexDpair chi clo hn
  | hexDstr len cap => exact exists_begins_hexDstr hs hn (of_decide_eq_true hlegal)
  | crcBuf => exact ⟨_, exec_crcBuf_of_le hn, .computes id hn⟩
  | xfVerify => exact exists_begins_xfVerify hn
  | xfPad => exact exists_begins_xfPad hn
  | xfMask => exact exists_begins_xfMask hn
  | xfRecomp => exact ⟨_, exec_xfRecomp_of_le hn, .computes id hn⟩
  | frmMaskrd => exact ⟨_, exec_frmMaskrd_of_exec hs, .expectsMask rfl⟩
  | frmDecode | frmOne | frmRun => exact exists_begins_header rfl hs

end

/-! ## A step of the machine -/

/-- What a step of the machine can do from a state of the invariant: the block moves, the host's word begins, is dropped
or resets, the host stores, the environment acts on the ports, or `rst` is driven. -/
inductive Steps (s : State) : State → Prop
  /-- The running command makes a block step. -/
  | runs {env : List EnvAct} {i : Instr} {t : State} (hbusy : s.status.busy = true) (hd : decode s.cur = .ok i)
    (hst : standsIn i s.seq = true) (hm : Moves i { s with env := env } t) : Steps s t
  /-- A word other than CLEAR's and SRESET's is accepted and legal. -/
  | begins {w : Word} {rest : List EnvAct} {i : Instr} {t : State} (hrst : s.rst = false)
    (hbusy : s.status.busy = false) (herr : s.status.err = false) (hd : decode w = .ok i)
    (hb : Begins i (accept w { s with env := rest }) t) : Steps s t
  /-- An illegal word is accepted (60_exceptions.md R241). -/
  | illegal {w : Word} {rest : List EnvAct} (hrst : s.rst = false) (hbusy : s.status.busy = false)
    (herr : s.status.err = false) : Steps s (raiseError .illegalCommand .exec (accept w { s with env := rest }))
  /-- CLEAR is accepted (46_control.md R237). -/
  | clears {rest : List EnvAct} (henv : s.env = .write 0x00#8 clearWord :: rest) (hrst : s.rst = false)
    (hbusy : s.status.busy = false) : Steps s (finish (clearError (accept clearWord { s with env := rest })))
  /-- SRESET is accepted (46_control.md R238). -/
  | resets {rest : List EnvAct} (henv : s.env = .write 0x00#8 sresetWord :: rest) (hrst : s.rst = false) :
    Steps s (resetBlock { s with env := rest })
  /-- A word is dropped (46_control.md R232). -/
  | drops {rest : List EnvAct} (hrst : s.rst = false) : Steps s { s with env := rest, status := s.status.dropped }
  /-- The host stores (10_state.md R21 to R36). -/
  | stores {index : Byte} {v : Word} {rest : List EnvAct} (hrst : s.rst = false) (hbusy : s.status.busy = false) :
    Steps s (writeReg (regOfIndex index) v { s with env := rest })
  /-- The host stores while `rst` holds the registers (70_reset_and_hazards.md R270). -/
  | holds {index : Byte} {v : Word} {rest : List EnvAct} (hrst : s.rst = true) :
    Steps s (resetBlock (writeReg (regOfIndex index) v { s with env := rest }))
  /-- The environment acts on the ports, the host reads, or nothing happens. -/
  | environment {env : List EnvAct} {input : InPort} {sinkReady : Bool} {draws : Nat} {reads : List HostRead}
    (hin : s.input.ended = true → (∀ rest, s.env ≠ .connect :: rest) → input = s.input) :
    Steps s { s with env := env, input := input, sinkReady := sinkReady, draws := draws, reads := reads }
  /-- `rst` is driven to a level (70_reset_and_hazards.md R270). -/
  | drives {level : Bool} {rest : List EnvAct} (henv : s.env = .rst level :: rest) :
    Steps s (setRst level { s with env := rest })

/-- What the environment drives and records is no part of the invariant. -/
theorem State.Inv.with_environment {s : State} (hinv : s.Inv) (env : List EnvAct) (input : InPort) (sinkReady : Bool)
    (draws : Nat) (reads : List HostRead) :
    { s with env := env, input := input, sinkReady := sinkReady, draws := draws, reads := reads }.Inv := by
  obtain ⟨hbuf, hn, hflags, hstage, hseq, hheld⟩ := hinv
  exact ⟨hbuf, hn, hflags, hstage, hseq, fun hrst => congrArg
    (fun t : State => { t with env := env, input := input, sinkReady := sinkReady, draws := draws, reads := reads })
    (hheld hrst)⟩

theorem State.Inv.with_env {s : State} (hinv : s.Inv) (env : List EnvAct) : { s with env := env }.Inv :=
  hinv.with_environment env s.input s.sinkReady s.draws s.reads

/-- The step changes nothing but what the environment has still to do. -/
theorem Steps.passes (s : State) (env : List EnvAct) : Steps s { s with env := env } :=
  .environment (input := s.input) (sinkReady := s.sinkReady) (draws := s.draws) (reads := s.reads) fun _ _ => rfl

section
variable {s : State} (hinv : s.Inv)
include hinv

theorem exists_steps_blockStep (env : List EnvAct) : ∃ t, blockStep { s with env := env } = .next t ∧ Steps s t := by
  cases hbusy : s.status.busy with
  | false => exact ⟨_, blockStep_of_idle hbusy, .passes s env⟩
  | true =>
    obtain ⟨i, t, hd, hst, ht, hm⟩ := (hinv.with_env env).exists_moves hbusy
    exact ⟨t, ht, .runs hbusy hd hst hm⟩

theorem exists_steps_runWord {w : Word} (hsreset : w ≠ sresetWord) (hclear : w ≠ clearWord) (hrst : s.rst = false)
    (hbusy : s.status.busy = false) (herr : s.status.err = false) (rest : List EnvAct) :
    ∃ t, runWord w (accept w { s with env := rest }) = .next t ∧ Steps s t := by
  obtain ⟨-, hn, -⟩ := hinv
  cases hd : decode w with
  | error e => exact ⟨_, runWord_of_error hd _, .illegal hrst hbusy herr⟩
  | ok i =>
    have hw : encode i = w := encode_of_decode hd
    obtain ⟨t, ht, hb⟩ := exists_begins (s := accept w { s with env := rest }) rfl hn (wellFormed_of_decode hd)
      (fun h => hclear (hw.symm.trans (congrArg encode h))) (fun h => hsreset (hw.symm.trans (congrArg encode h)))
    exact ⟨t, (runWord_of_ok hd _).trans ht, .begins hrst hbusy herr hd hb⟩

theorem exists_steps_writeCmd {w : Word} {rest : List EnvAct} (henv : s.env = .write 0x00#8 w :: rest) :
    ∃ t, writeCmd w { s with env := rest } = .next t ∧ Steps s t := by
  rcases writeCmd_cases w { s with env := rest } with ⟨-, hr⟩ | ⟨hrst, hacc, hr⟩ | ⟨hrst, -, hr⟩
  · exact ⟨_, hr, .passes s rest⟩
  · rw [hr]
    by_cases hsreset : w = sresetWord
    · subst hsreset
      exact ⟨_, rfl, .resets henv hrst⟩
    obtain ⟨hbusy, herr⟩ := (accepts_iff.mp hacc).resolve_left hsreset
    rw [runAccepted_of_ne hsreset]
    by_cases hclear : w = clearWord
    · subst hclear
      exact ⟨_, rfl, .clears henv hrst hbusy⟩
    exact exists_steps_runWord hinv hsreset hclear hrst hbusy (herr.resolve_right hclear) rest
  · exact ⟨_, hr, .drops hrst⟩

theorem exists_steps_hostWrite {index : Byte} {v : Word} {rest : List EnvAct} (henv : s.env = .write index v :: rest) :
    ∃ t, hostWrite index v { s with env := rest } = .next t ∧ Steps s t := by
  unfold hostWrite
  split
  case h_1 hcmd =>
    rw [eq_zero_of_regOfIndex_eq_cmd hcmd] at henv
    exact exists_steps_writeCmd hinv henv
  case h_2 =>
    split
    case isTrue => exact ⟨_, rfl, .passes s rest⟩
    case isFalse hbusy =>
      refine ⟨_, rfl, ?_⟩
      rw [Bool.not_eq_true] at hbusy
      cases hrst : s.rst with
      | false => simpa [holdReset, hrst] using Steps.stores (index := index) (v := v) (rest := rest) hrst hbusy
      | true => simpa [holdReset, hrst] using Steps.holds (index := index) (v := v) (rest := rest) hrst

/-- A step from a state of the invariant does one of the things listed. -/
theorem exists_steps : ∃ t, step s = .next t ∧ Steps s t := by
  cases henv : s.env with
  | nil =>
    rw [step_of_nil henv]
    exact exists_steps_blockStep hinv s.env
  | cons act rest =>
    rw [step_of_cons henv]
    cases act with
    | write index v => exact exists_steps_hostWrite hinv henv
    | read index => exact ⟨_, rfl, .environment fun _ _ => rfl⟩
    | offer b =>
      refine ⟨_, rfl, ?_⟩
      unfold offerByte
      split
      case isTrue => exact .passes s rest
      case isFalse hopen => exact .environment fun he _ => absurd he hopen
    | endInput => exact ⟨_, rfl, .environment fun he _ => by rw [← he]⟩
    | connect => exact ⟨_, rfl, .environment fun _ hne => absurd henv (hne rest)⟩
    | sink ready => exact ⟨_, rfl, .environment fun _ _ => rfl⟩
    | rst level => exact ⟨_, rfl, .drives henv⟩
    | block => exact exists_steps_blockStep hinv rest
    | wait =>
      dsimp only [envStep]
      split
      case isTrue => exact exists_steps_blockStep hinv s.env
      case isFalse => exact ⟨_, rfl, .passes s rest⟩

theorem State.Inv.steps {t : State} (h : step s = .next t) : Steps s t := by
  obtain ⟨u, hu, hsteps⟩ := exists_steps hinv
  obtain rfl : u = t := Host.Outcome.next.inj (hu.symm.trans h)
  exact hsteps

end

/-- Settles O51. -/
theorem noStepStopsFromTheInvariant : Obligations.NoStepStopsFromTheInvariant := by
  intro s hinv
  obtain ⟨t, ht, -⟩ := exists_steps hinv
  exact ⟨t, ht⟩

/-! ## Every step keeps the invariant -/

/-- An idle block under the invariant: nothing waits for the sink. -/
theorem State.Inv.idle {s : State} (hinv : s.Inv) (hbusy : s.status.busy = false) :
    s.seq = .idle ∧ s.pending = none := by
  obtain ⟨-, -, -, -, ⟨hidle, -, hpending⟩, -⟩ := hinv
  have hseq := hidle hbusy
  refine ⟨hseq, by_contra fun hsome => ?_⟩
  cases hseq.symm.trans (hpending.mp hsome)

/-- Without a latched error ERRCODE and ERRSTATE read 0 (10_state.md R23, R24). -/
theorem State.flagsInv.of_err_eq_false {s : State} (h : s.flagsInv) (herr : s.status.err = false) :
    s.errcode = none ∧ s.status.errstate = .idle := by
  obtain ⟨hcode, hstate, -⟩ := h
  simp_all

/-- A reset state is of the invariant, whatever the ports hold. -/
theorem inv_resetBlock {s : State} (hbuf : s.buf.wf) : (resetBlock s).Inv := by
  refine ⟨hbuf, Nat.zero_le _, ?_, trivial, ?_, fun _ => rfl⟩
  · simp [State.flagsInv]
  · simp [State.sequencerInv]

/-- An accepted command that begins keeps the invariant. -/
theorem Begins.inv {i : Instr} {s t : State} {w : Word} (h : Begins i (accept w s) t) (hinv : s.Inv)
    (hrst : s.rst = false) (hbusy : s.status.busy = false) (herr : s.status.err = false) (hd : decode w = .ok i) :
    t.Inv := by
  obtain ⟨hseq, hpending⟩ := hinv.idle hbusy
  obtain ⟨hbuf, hn, hflags, -, -, -⟩ := hinv
  obtain ⟨herrcode, herrstate⟩ := hflags.of_err_eq_false herr
  have hunheld {P : Prop} : s.rst = true → P := fun h => by simp [hrst] at h
  cases h with
  | computes hwf hlen =>
    refine ⟨hwf hbuf, hlen, ?_, trivial, ?_, hunheld⟩
    · simp [State.flagsInv, herr, herrcode, herrstate]
    · simp [State.sequencerInv, hpending]
  | fails hmem =>
    have hne := ne_idle_of_mem_errorPairs hmem
    refine ⟨hbuf, hn, ?_, trivial, ?_, hunheld⟩
    · simp [State.flagsInv, hne]
    · simp [State.sequencerInv, hpending]
  | verifyFails =>
    refine ⟨hbuf, hn, ?_, trivial, ?_, hunheld⟩
    · simp [State.flagsInv, atCompare]
    · simp [State.sequencerInv, atCompare, hpending]
  | endOfStream =>
    refine ⟨hbuf, hn, ?_, trivial, ?_, hunheld⟩
    · simp [State.flagsInv, herr, herrcode, herrstate]
    · simp [State.sequencerInv, hpending]
  | expectsHeader hst =>
    refine ⟨hbuf, hn, ?_, stageInv_enter (st := .hdr) (s := s) (by decide) (by decide), ?_, hunheld⟩
    · simp [State.flagsInv, herr, herrcode, herrstate]
    · simp [State.sequencerInv, hpending, hd, hst]
  | expectsMask hi =>
    refine ⟨hbuf, hn, ?_, stageInv_enter (by decide) (by decide), ?_, hunheld⟩
    · simp [State.flagsInv, herr, herrcode, herrstate]
    · simp [State.sequencerInv, hpending, hd, hi, standsIn]
  | expectsString hi hlen hcap =>
    subst hi
    obtain ⟨-, hcapField, -, hlenField⟩ := eq_formatS_word_iff.mp (decode_eq_ok_hexDstr_iff.mp hd).2
    refine ⟨hbuf, hn, ?_, ?_, ?_, hunheld⟩
    · simp [State.flagsInv, herr, herrcode, herrstate]
    · simp [State.stageInv, hlenField, hcapField, hlen, hcap]
    · simp [State.sequencerInv, hpending, hd, standsIn]

/-- The last BUFW window ends at the end of BUF (10_state.md R36). -/
theorem le_of_regOfIndex_eq_bufw {index : Byte} {k : Nat} (h : regOfIndex index = .bufw k) : k ≤ 62 := by
  unfold regOfIndex at h
  split at h
  case h_13 =>
    split at h
    case isTrue hrange =>
      obtain rfl := Reg.bufw.inj h
      omega
    case isFalse => cases h
  all_goals cases h

theorem wf_buf_writeReg {s : State} (hbuf : s.buf.wf) (index : Byte) (v : Word) :
    (writeReg (regOfIndex index) v s).buf.wf := by
  cases h : regOfIndex index with
  | bufw k =>
    have hk := le_of_regOfIndex_eq_bufw h
    exact Memory.wf_writeWord hbuf (by rw [Config.bufSize]; omega) v
  | _ => exact hbuf

theorem toNat_legalLength_le {old : Byte} (h : old.toNat ≤ Config.bufSize) (v : Word) :
    (legalLength old v).toNat ≤ Config.bufSize := by
  unfold legalLength
  split <;> assumption

/-- A host write to an idle block keeps the invariant. -/
theorem inv_writeReg {s : State} (hinv : s.Inv) (hrst : s.rst = false) (hbusy : s.status.busy = false) (index : Byte)
    (v : Word) : (writeReg (regOfIndex index) v s).Inv := by
  obtain ⟨hseq, -⟩ := hinv.idle hbusy
  obtain ⟨hbuf, hn, hflags, hstage, hsequencer, -⟩ := hinv
  have hwf := wf_buf_writeReg hbuf index v
  have hunheld {P : Prop} : s.rst = true → P := fun h => by simp [hrst] at h
  have hstage' : ∀ {t : State}, t.seq = s.seq → t.stageInv := fun ht => stageInv_of_idle (ht.trans hseq)
  cases hreg : regOfIndex index with
  | bufw k =>
    rw [hreg] at hwf
    exact ⟨hwf, hn, hflags, hstage' rfl, hsequencer, hunheld⟩
  | fdlen => exact ⟨hbuf, toNat_legalLength_le hn v, hflags, hstage' rfl, hsequencer, hunheld⟩
  | _ => exact ⟨hbuf, hn, hflags, hstage' rfl, hsequencer, hunheld⟩

theorem Steps.inv {s t : State} (h : Steps s t) (hinv : s.Inv) : t.Inv := by
  have ⟨hbuf, hn, hflags, hstage, hsequencer, _⟩ := hinv
  have hunheld {P : Prop} (hrst : s.rst = false) : s.rst = true → P := fun h => by simp [hrst] at h
  cases h with
  | runs hbusy hd hst hm => exact hm.inv (hinv.with_env _) hbusy hd hst
  | begins hrst hbusy herr hd hb => exact hb.inv (hinv.with_env _) hrst hbusy herr hd
  | illegal hrst hbusy herr =>
    obtain ⟨-, hpending⟩ := hinv.idle hbusy
    refine ⟨hbuf, hn, ?_, trivial, ?_, hunheld hrst⟩
    · simp [State.flagsInv]
    · simp [State.sequencerInv, hpending]
  | clears _ hrst hbusy =>
    obtain ⟨-, hpending⟩ := hinv.idle hbusy
    refine ⟨hbuf, hn, ?_, trivial, ?_, hunheld hrst⟩
    · simp [State.flagsInv]
    · simp [State.sequencerInv, hpending]
  | resets => exact inv_resetBlock hbuf
  | drops hrst => exact ⟨hbuf, hn, hflags, hstage, hsequencer, hunheld hrst⟩
  | @stores index v rest hrst hbusy => exact inv_writeReg (hinv.with_env rest) hrst hbusy index v
  | @holds index v rest => exact inv_resetBlock (wf_buf_writeReg (s := { s with env := rest }) hbuf index v)
  | environment => exact hinv.with_environment _ _ _ _ _
  | drives => exact inv_resetBlock hbuf

/-- Settles O50: the cases of a step, each of which keeps the invariant. -/
theorem everyStepKeepsTheInvariant : Obligations.EveryStepKeepsTheInvariant :=
  fun _ _ hinv hstep => (hinv.steps hstep).inv hinv

/-- The reset state is of the invariant, whatever the environment is about to do. -/
theorem inv_reset (env : List EnvAct) : { State.reset with env := env }.Inv :=
  inv_resetBlock (s := { State.reset with env := env }) ⟨.nil, nofun⟩

/-- Settles O52: a reset block has nothing waiting and has delivered nothing. -/
theorem resetStateIsOfTheInvariants : Obligations.ResetStateIsOfTheInvariants :=
  fun env => ⟨inv_reset env, inv_reset env, trivial, nofun, nofun⟩

end Sys2Proof.Machine
end

section
/-!
PROOFS. The snapshot points: every record delivered or waiting has the CRC of its own data, PRE the decoded length, POST
the padded length (45_pipeline.md R216).
-/

namespace Sys2Proof.Machine

/-! ## FDLEN against FPLEN, stage by stage -/

theorem lengthInv_of_idle {s : State} (hs : s.seq = .idle) : s.lengthInv := by simp [State.lengthInv, hs]

/-- FDLEN against FPLEN is read from these four registers only. -/
theorem State.lengthInv.congr {s t : State} (h : s.lengthInv) (hseq : t.seq = s.seq) (hcur : t.cur = s.cur)
    (hfplen : t.fplen = s.fplen) (hfdlen : t.fdlen = s.fdlen) : t.lengthInv := by
  unfold State.lengthInv at h ⊢
  rw [hseq, hcur, hfplen, hfdlen]
  exact h

theorem lengthInv_finishOr {ends : Prop} [Decidable ends] {r : Word} {st : SeqState} {s : State}
    (h : ¬ends → (enter st s).lengthInv) : (finishOr ends r st s).lengthInv := by
  rcases finishOr_cases ends r st s with ⟨-, heq⟩ | ⟨hgo, heq⟩ <;> rw [heq]
  · exact lengthInv_of_idle rfl
  · exact h hgo

section
variable {i : Instr} {s t : State}

/-- FDLEN is the length of the data, then the padded length, as the stages go by (43_frame_decoder.md R166,
44_transform.md R192). -/
theorem Moves.lengthInv (h : Moves i s t) (hinv : s.SnapshotInv) (hd : decode s.cur = .ok i)
    (hst : standsIn i s.seq = true) : t.lengthInv := by
  obtain ⟨⟨-, hn, -⟩, hlen, -, hpending⟩ := hinv
  have hpipe (hi : i = .frmOne ∨ i = .frmRun) : decode s.cur ≠ .ok .frmMaskrd := by
    rw [hd]
    rcases hi with rfl | rfl <;> simp
  cases h with
  | waitsForPort | waitsForSink => exact hlen
  | endOfStream | shortRead | wrongByte | noDigit | lengthTooShort | verifyFails | stringDone =>
    exact lengthInv_of_idle rfl
  | markerByte | highDigit | wordDigit | payloadByte | stringByte => exact hlen.congr rfl rfl rfl rfl
  | markerDone hs =>
    rcases SeqState.marker?_eq_some_iff.mp hs with ⟨hs, -⟩ | ⟨hs, -⟩ <;> rw [hs]
    · trivial
    · simpa [State.lengthInv, hs] using hlen
  | typeDone => trivial
  | lengthOfNoData _ _ _ _ hfour => exact fun _ => ⟨hfour.ge, toNat_sub_four hfour.ge⟩
  | lengthDone _ _ _ _ hmore => exact fun _ => ⟨hmore.le, toNat_sub_four hmore.le⟩
  | payloadDone hs => simpa [State.lengthInv, storedPair, hs] using hlen
  | checksumDone hs => exact lengthInv_finishOr fun _ => by simpa [State.lengthInv, hs] using hlen
  | maskDone hs => exact lengthInv_finishOr fun _ => by simpa [State.lengthInv, hs] using hlen
  | verifyPasses | recomputes => trivial
  | deliversPre _ hp hkind =>
    obtain ⟨⟨-, -, hfour, hpre, -⟩, hregs⟩ := hpending _ hp
    rw [hregs] at hfour hpre
    exact fun _ => ⟨hfour, hpre hkind⟩
  | deliversPost => exact lengthInv_finishOr fun _ => trivial
  | pads hs =>
    simp only [State.lengthInv, hs] at hlen
    obtain ⟨hfour, hdata⟩ := hlen (hpipe (standsIn_pad_iff.mp (hs ▸ hst)))
    exact ⟨hfour, (toNat_fdlen_afterPad hn).trans (congrArg roundup4 hdata)⟩
  | masks hs => simpa [State.lengthInv, afterMask, hs] using hlen

/-! ## The record that waits -/

/-- A record that waits after a rule waited before it, or Verify or Recompute has just taken it. -/
theorem Moves.pending_cases (h : Moves i s t) (hp : s.pending ≠ none ↔ s.seq = .emit) :
    t.pending = none ∨ t = s ∨
    (s.seq = .verify ∧ crc32 (s.buf.bytes s.fdlen.toNat) = s.fcrc ∧
      t = callEmit .pre (atCompare s.result s) s.fdlen.toNat) ∨
    (s.seq = .recomp ∧ t = callEmit .post (afterRecompute s) s.fdlen.toNat) := by
  by_cases hnone : t.pending = none
  · exact .inl hnone
  have hemit : t.seq = .emit := (h.pending_iff hp).mp hnone
  have hends {ends : Prop} [Decidable ends] {r : Word} {st : SeqState} {u : State} (hst : st ≠ .emit)
      (hu : (finishOr ends r st u).seq = .emit) : False := by
    rcases finishOr_cases ends r st u with ⟨-, heq⟩ | ⟨-, heq⟩ <;> simp_all
  right
  cases h with
  | waitsForPort | waitsForSink => exact .inl rfl
  | verifyPasses hs _ hcrc => exact .inr (.inl ⟨hs, hcrc, rfl⟩)
  | recomputes hs => exact .inr (.inr ⟨hs, rfl⟩)
  | markerByte hs => exact absurd hemit (ne_emit_of_readsPort (readsPort_of_marker hs))
  | highDigit hs => exact absurd hemit (ne_emit_of_readsPort (readsPort_of_readsPairs hs))
  | wordDigit hs => exact absurd hemit (ne_emit_of_readsPort (readsPort_of_readsWord hs))
  | payloadByte hs => cases hs.symm.trans hemit
  | stringByte _ hs => cases hs.symm.trans hemit
  | markerDone =>
    unfold SeqState.afterMarker at hemit
    split at hemit <;> cases hemit
  | checksumDone | maskDone | deliversPost => exact (hends (by decide) hemit).elim
  | _ => cases hemit

/-- The record Verify takes is sound (45_pipeline.md R210, R216). -/
theorem sound_preRecord (hlen : 4 ≤ s.fplen.toNat ∧ s.fdlen.toNat = s.fplen.toNat - 4)
    (hcrc : crc32 (s.buf.bytes s.fdlen.toNat) = s.fcrc) :
    (snapshotOf .pre (atCompare s.result s) s.fdlen.toNat).sound :=
  ⟨Memory.length_bytes _ _, hcrc.symm, hlen.1, fun _ => hlen.2, nofun⟩

/-- The record Recompute takes is sound (45_pipeline.md R210, R216). -/
theorem sound_postRecord (hlen : 4 ≤ s.fplen.toNat ∧ s.fdlen.toNat = roundup4 (s.fplen.toNat - 4)) :
    (snapshotOf .post (afterRecompute s) s.fdlen.toNat).sound :=
  ⟨Memory.length_bytes _ _, rfl, hlen.1, nofun, fun _ => hlen.2⟩

/-- What a rule delivers: nothing, a PRE record, or a POST record that is counted (45_pipeline.md R211). -/
theorem Moves.delivered_cases (h : Moves i s t) :
    (t.frames = s.frames ∧ t.delivered = s.delivered) ∨
    (∃ p, s.pending = some p ∧ p.kind = .pre ∧ t.frames = s.frames ∧ t.delivered = s.delivered ++ [p]) ∨
    ∃ p, s.pending = some p ∧ p.kind = .post ∧ t.frames = s.frames + 1#32 ∧ t.delivered = s.delivered ++ [p] := by
  cases h with
  | deliversPre _ hp hkind => exact .inr (.inl ⟨_, hp, hkind, rfl, rfl⟩)
  | deliversPost _ hp hkind => exact .inr (.inr ⟨_, hp, hkind, by simp, by simp⟩)
  | checksumDone | maskDone => simp
  | _ => exact .inl ⟨rfl, rfl⟩

theorem Moves.snapshotInv (h : Moves i s t) (hinv : s.SnapshotInv) (hbusy : s.status.busy = true)
    (hd : decode s.cur = .ok i) (hst : standsIn i s.seq = true) : t.SnapshotInv := by
  have hlen := h.lengthInv hinv hd hst
  obtain ⟨hblock, hlenS, hdelivered, hwaiting⟩ := hinv
  have ⟨_, _, _, _, ⟨_, _, hpending⟩, _⟩ := hblock
  refine ⟨h.inv hblock hbusy hd hst, hlen, ?delivered, ?waiting⟩
  case delivered =>
    have happend {p : Snapshot} (hp : s.pending = some p) : ∀ q ∈ s.delivered ++ [p], q.sound := by
      intro q hq
      rcases List.mem_append.mp hq with hq | hq
      · exact hdelivered q hq
      · obtain rfl := List.mem_singleton.mp hq
        exact (hwaiting _ hp).1
    rcases h.delivered_cases with ⟨-, hout⟩ | ⟨p, hp, -, -, hout⟩ | ⟨p, hp, -, -, hout⟩ <;> rw [hout]
    · exact hdelivered
    · exact happend hp
    · exact happend hp
  case waiting =>
    rcases h.pending_cases hpending with hnone | rfl | ⟨hs, hcrc, rfl⟩ | ⟨hs, rfl⟩
    · simp [hnone]
    · exact hwaiting
    · rw [hs] at hst
      simp only [State.lengthInv, hs, hd] at hlenS
      have hread : 4 ≤ s.fplen.toNat ∧ s.fdlen.toNat = s.fplen.toNat - 4 := by
        rcases standsIn_verify_iff.mp hst with rfl | rfl <;> exact hlenS (by simp)
      rintro p ⟨⟩
      exact ⟨sound_preRecord hread hcrc, rfl⟩
    · simp only [State.lengthInv, hs] at hlenS
      rintro p ⟨⟩
      exact ⟨sound_postRecord hlenS, rfl⟩

/-! ## Every step -/

/-- The accepting step reads no input and delivers nothing. -/
theorem Begins.keeps (h : Begins i s t) :
    t.input = s.input ∧ t.pending = s.pending ∧ t.delivered = s.delivered ∧ t.frames = s.frames := by
  cases h <;> exact ⟨rfl, rfl, rfl, rfl⟩

theorem Begins.lengthInv {w : Word} (h : Begins i (accept w s) t) (hd : decode w = .ok i) : t.lengthInv := by
  cases h with
  | expectsHeader | expectsString => trivial
  | expectsMask hi => exact fun hne => absurd (hi ▸ hd) hne
  | _ => exact lengthInv_of_idle rfl

/-- A host write reaches no port and no record. -/
theorem writeReg_keeps (r : Reg) (v : Word) (s : State) :
    (writeReg r v s).input = s.input ∧ (writeReg r v s).pending = s.pending ∧
      (writeReg r v s).delivered = s.delivered ∧ (writeReg r v s).frames = s.frames ∧
      (writeReg r v s).seq = s.seq ∧ (writeReg r v s).errcode = s.errcode := by
  cases r <;> exact ⟨rfl, rfl, rfl, rfl, rfl, rfl⟩

theorem Steps.snapshotInv (h : Steps s t) (hinv : s.SnapshotInv) : t.SnapshotInv := by
  have hblock := hinv.1
  have htInv := h.inv hblock
  obtain ⟨-, hlen, hdelivered, hwaiting⟩ := hinv
  have hquiet (hlenT : t.lengthInv) (hout : t.delivered = s.delivered) (hnone : t.pending = none) : t.SnapshotInv :=
    ⟨htInv, hlenT, by rwa [hout], by simp [hnone]⟩
  cases h with
  | runs hbusy hd hst hm => exact hm.snapshotInv ⟨hblock.with_env _, hlen, hdelivered, hwaiting⟩ hbusy hd hst
  | begins hrst hbusy herr hd hb =>
    obtain ⟨-, hnone⟩ := hblock.idle hbusy
    obtain ⟨-, hp, hout, -⟩ := hb.keeps
    exact hquiet (hb.lengthInv hd) hout (hp.trans hnone)
  | illegal _ hbusy => exact hquiet (lengthInv_of_idle rfl) rfl (hblock.idle hbusy).2
  | clears _ _ hbusy => exact hquiet (lengthInv_of_idle rfl) rfl (hblock.idle hbusy).2
  | resets | drives => exact hquiet (lengthInv_of_idle rfl) rfl rfl
  | drops | environment => exact ⟨htInv, hlen.congr rfl rfl rfl rfl, hdelivered, hwaiting⟩
  | @stores index v rest _ hbusy =>
    obtain ⟨hseq, hnone⟩ := hblock.idle hbusy
    obtain ⟨-, hp, hout, -, hstays, -⟩ := writeReg_keeps (regOfIndex index) v { s with env := rest }
    exact hquiet (lengthInv_of_idle (hstays.trans hseq)) hout (hp.trans hnone)
  | @holds index v rest =>
    obtain ⟨-, -, hout, -⟩ := writeReg_keeps (regOfIndex index) v { s with env := rest }
    exact hquiet (lengthInv_of_idle rfl) hout rfl

end

/-- Settles O53: the cases of a step, each of which keeps the invariants of the snapshot points. -/
theorem everyStepKeepsSnapshotsSound : Obligations.EveryStepKeepsSnapshotsSound :=
  fun _ _ hinv hstep => (hinv.1.steps hstep).snapshotInv hinv

end Sys2Proof.Machine
end

section
/-!
PROOFS. What holds of every step: errors, the order of the stages, the input taken, the registers written, the frames
counted, and the end of a command when the ports cooperate (60_exceptions.md, 10_state.md, 70_reset_and_hazards.md).
-/

namespace Sys2Proof.Machine

/-! ## Errors -/

theorem checksum_mem_errorPairs : (.checksum, .verify) ∈ errorPairs := by decide

theorem illegalCommand_mem_errorPairs : (.illegalCommand, .exec) ∈ errorPairs := by decide

/-- Settles O41: an error is raised by a rule of a block step or by the step that accepts a word. -/
theorem errorEntryLatchesAKindAndAState : Obligations.ErrorEntryLatchesAKindAndAState := by
  intro s t hinv hstep herr hraised
  cases hinv.steps hstep with
  | runs hbusy hd hst hm =>
    rcases hm.outcome hst with ⟨hs, -⟩ | ⟨-, -, hs | hs⟩ | ⟨e, st, hmem, hs, he, hidle, hout, hframes⟩
    · simp [hs, herr] at hraised
    · simp [hs, herr] at hraised
    · simp [hs, herr] at hraised
    · rw [hs]
      exact ⟨rfl, rfl, hidle, hout, hframes, e, he, hmem⟩
  | begins _ _ _ _ hb =>
    cases hb with
    | fails hmem => exact ⟨rfl, rfl, rfl, rfl, rfl, _, rfl, hmem⟩
    | verifyFails => exact ⟨rfl, rfl, rfl, rfl, rfl, _, rfl, checksum_mem_errorPairs⟩
    | computes | endOfStream | expectsHeader | expectsMask | expectsString => simp [herr] at hraised
  | illegal => exact ⟨rfl, rfl, rfl, rfl, rfl, _, rfl, illegalCommand_mem_errorPairs⟩
  | clears | resets | holds | drives => simp at hraised
  | stores => simp [herr] at hraised
  | drops | environment => exact absurd (herr.symm.trans hraised) (by decide)

/-- Settles O42: with an error latched no word begins but CLEAR's, and only CLEAR and a reset write the flags it is
latched in. -/
theorem latchedErrorIsNotOverwritten : Obligations.LatchedErrorIsNotOverwritten := by
  intro s t hinv hstep herr
  have ⟨_, _, ⟨_, _, _, _, hbusyFlags⟩, _, _, hheld⟩ := hinv
  have hkept {u : State} (he : u.errcode = s.errcode) (hst : u.status.err = s.status.err)
      (hstate : u.status.errstate = s.status.errstate) (P : Prop) :
      (u.status.err = true → u.errcode = s.errcode ∧ u.status.errstate = s.status.errstate) ∧
        (u.status.err = false → P) := by
    refine ⟨fun _ => ⟨he, hstate⟩, fun hfallen => ?_⟩
    rw [hst, herr] at hfallen
    cases hfallen
  have hgone {u : State} (hst : u.status.err = false) (P : Prop) : u.status.err = true → P := by simp [hst]
  cases hinv.steps hstep with
  | runs hbusy => simp [(hbusyFlags hbusy).2] at herr
  | begins _ _ hnone | illegal _ _ hnone => simp [hnone] at herr
  | clears henv => exact ⟨hgone rfl _, fun _ => ⟨rfl, rfl, .inl ⟨_, henv⟩⟩⟩
  | resets henv => exact ⟨hgone rfl _, fun _ => ⟨rfl, rfl, .inr (.inl ⟨_, henv⟩)⟩⟩
  | drives henv => exact ⟨hgone rfl _, fun _ => ⟨rfl, rfl, .inr (.inr ⟨_, _, henv⟩)⟩⟩
  | holds hrst =>
    rw [← hheld hrst] at herr
    cases herr
  | drops | environment => exact hkept rfl rfl rfl _
  | @stores index v rest =>
    obtain ⟨-, -, -, -, -, he⟩ := writeReg_keeps (regOfIndex index) v { s with env := rest }
    exact hkept he (by simp) (by simp) _

/-! ## The order of the stages -/

/-- A command that is still BUSY has not ended. -/
theorem finishOr_of_busy {ends : Prop} [Decidable ends] {r : Word} {st : SeqState} {s : State}
    (h : (finishOr ends r st s).status.busy = true) : ¬ends ∧ finishOr ends r st s = enter st s := by
  rcases finishOr_cases ends r st s with ⟨-, heq⟩ | ⟨hgo, heq⟩
  · rw [heq] at h
    cases h
  · exact ⟨hgo, heq⟩

/-- A rule goes on to a later stage or stays, but for FRM.RUN after POST (10_state.md, section 6). -/
theorem Moves.stageRank_le {i : Instr} {s t : State} (h : Moves i s t) (hst : standsIn i s.seq = true)
    (hbusy : t.status.busy = true) :
    stageRank s ≤ stageRank t ∨
      (i = .frmRun ∧ s.seq = .emit ∧ s.pending.map Snapshot.kind = some .post ∧ t.seq = .hdr) := by
  cases h with
  | endOfStream | shortRead | wrongByte | noDigit | lengthTooShort | verifyFails | stringDone => cases hbusy
  | waitsForPort | waitsForSink | markerByte | highDigit | wordDigit | payloadByte | stringByte =>
    exact .inl (Nat.le_refl _)
  | markerDone hs =>
    rcases SeqState.marker?_eq_some_iff.mp hs with ⟨hs, -⟩ | ⟨hs, -⟩ <;> simp [stageRank, hs]
  | typeDone hs | lengthOfNoData hs | lengthDone hs | payloadDone hs | pads hs | masks hs => simp [stageRank, hs]
  | verifyPasses hs | recomputes hs => simp [stageRank, callEmit, snapshotOf, hs]
  | checksumDone hs | maskDone hs =>
    obtain ⟨-, heq⟩ := finishOr_of_busy hbusy
    exact .inl ((congrArg stageRank heq).ge.trans' (by simp [stageRank, hs]))
  | deliversPre hs hp hkind => simp [stageRank, hs, hp, hkind]
  | deliversPost hs hp hkind =>
    obtain ⟨hne, heq⟩ := finishOr_of_busy hbusy
    exact .inr ⟨(standsIn_emit_iff.mp (hs ▸ hst)).resolve_left hne, hs, by simp [hp, hkind], congrArg State.seq heq⟩

/-- Settles O54: an idle block does not move, and a running one follows its rules. -/
theorem sequencerNeverGoesBackWithinAFrame : Obligations.SequencerNeverGoesBackWithinAFrame := by
  intro s t hinv hstep hbusy hstill
  rcases hinv.blockStep_cases hstep with ⟨hidle, -⟩ | ⟨-, i, hd, hst, hm⟩
  · simp [hidle] at hbusy
  · rw [hd, Except.ok.injEq]
    exact hm.stageRank_le hst hstill

/-! ## The input taken -/

/-- A rule takes no byte of the stream, or the next one (10_state.md R34, R45). -/
theorem Moves.input_cases {i : Instr} {s t : State} (h : Moves i s t) :
    (t.input = s.input ∧ t.incnt = s.incnt) ∨
    ∃ b rest, s.input.ahead = b :: rest ∧ t.input = { s.input with ahead := rest, pos := s.input.pos + 1 } ∧
      t.incnt = s.incnt + 1#32 := by
  cases h with
  | waitsForPort | waitsForSink | endOfStream | shortRead | verifyPasses | verifyFails | deliversPre | pads | masks
  | recomputes => exact .inl ⟨rfl, rfl⟩
  | deliversPost => simp
  | checksumDone _ ha | maskDone _ ha => exact .inr ⟨_, _, ha, by simp [takeByte], by simp [takeByte]⟩
  | wrongByte _ ha | noDigit _ ha | markerByte _ ha | markerDone _ ha | highDigit _ ha | wordDigit _ ha | typeDone _ ha
  | lengthTooShort _ ha | lengthOfNoData _ ha | lengthDone _ ha | payloadByte _ ha | payloadDone _ ha =>
    exact .inr ⟨_, _, ha, rfl, rfl⟩
  | stringByte _ _ ha | stringDone _ _ ha => exact .inr ⟨_, _, ha, rfl, rfl⟩

/-- Settles O55. -/
theorem blockStepsTakeAtMostOneByte : Obligations.BlockStepsTakeAtMostOneByte := by
  intro s t hstep hinv
  rcases hinv.blockStep_cases hstep with ⟨-, rfl⟩ | ⟨hbusy, i, -, -, hm⟩
  · exact ⟨fun _ => rfl, .inl ⟨rfl, rfl⟩⟩
  · exact ⟨fun hidle => by simp [hidle] at hbusy, hm.input_cases⟩

/-- Settles O58: the block takes nothing from an empty stream, and the environment adds nothing to an ended one. -/
theorem endOfInputIsPermanentUntilANewStream : Obligations.EndOfInputIsPermanentUntilANewStream := by
  intro s t hinv hstep ha he hne
  cases hinv.steps hstep with
  | runs _ _ _ hm =>
    rcases hm.input_cases with ⟨hin, -⟩ | ⟨b, rest, hahead, -⟩
    · exact hin
    · cases ha.symm.trans hahead
  | begins _ _ _ _ hb => exact hb.keeps.1
  | stores | holds => exact (writeReg_keeps _ _ _).1
  | environment hin => exact hin he hne
  | illegal | clears | resets | drops | drives => rfl

/-! ## The registers written -/

section
variable {i : Instr} {s t : State} (h : Moves i s t)
include h

theorem Moves.ftype_eq_of_ne (hs : s.seq ≠ .type) : t.ftype = s.ftype := by
  cases h with
  | typeDone hs' => exact absurd hs' hs
  | checksumDone | maskDone | deliversPost => simp
  | _ => rfl

theorem Moves.fplen_eq_of_ne (hs : s.seq ≠ .len) : t.fplen = s.fplen := by
  cases h with
  | lengthTooShort hs' | lengthOfNoData hs' | lengthDone hs' => exact absurd hs' hs
  | checksumDone | maskDone | deliversPost => simp
  | _ => rfl

theorem Moves.fdlen_eq_of_ne (hlen : s.seq ≠ .len) (hpad : s.seq ≠ .pad) : t.fdlen = s.fdlen := by
  cases h with
  | lengthOfNoData hs | lengthDone hs => exact absurd hs hlen
  | pads hs => exact absurd hs hpad
  | checksumDone | maskDone | deliversPost => simp
  | _ => rfl

theorem Moves.fcrc_eq_of_ne (hcksum : s.seq ≠ .cksum) (hrecomp : s.seq ≠ .recomp) : t.fcrc = s.fcrc := by
  cases h with
  | checksumDone hs => exact absurd hs hcksum
  | recomputes hs => exact absurd hs hrecomp
  | maskDone | deliversPost => simp
  | _ => rfl

theorem Moves.mask_eq_of_ne (hmval : s.seq ≠ .mval) : t.mask = s.mask := by
  cases h with
  | maskDone hs => exact absurd hs hmval
  | checksumDone | deliversPost => simp
  | _ => rfl

theorem Moves.crcreg_eq_of_ne (hverify : s.seq ≠ .verify) (hrecomp : s.seq ≠ .recomp) : t.crcreg = s.crcreg := by
  cases h with
  | verifyPasses hs | verifyFails hs => exact absurd hs hverify
  | recomputes hs => exact absurd hs hrecomp
  | checksumDone | maskDone | deliversPost => simp
  | _ => rfl

theorem Moves.buf_eq_of_ne (hpayload : s.seq ≠ .payload) (hhexstr : s.seq ≠ .hexstr) (hpad : s.seq ≠ .pad)
    (hmask : s.seq ≠ .mask) : t.buf = s.buf := by
  cases h with
  | payloadByte hs | payloadDone hs => exact absurd hs hpayload
  | stringByte _ hs | stringDone _ hs => exact absurd hs hhexstr
  | pads hs => exact absurd hs hpad
  | masks hs => exact absurd hs hmask
  | checksumDone | maskDone | deliversPost => simp
  | _ => rfl

/-- RESULT is written by the step that ends the command (10_state.md R25). -/
theorem Moves.result_cases : t.result = s.result ∨ (t.status.busy = false ∧ t.status.done = true) := by
  have hends (ends : Prop) [Decidable ends] (r : Word) (st : SeqState) {u : State} (hu : u.result = s.result) :
      (finishOr ends r st u).result = s.result ∨
        ((finishOr ends r st u).status.busy = false ∧ (finishOr ends r st u).status.done = true) := by
    rcases finishOr_cases ends r st u with ⟨-, heq⟩ | ⟨-, heq⟩ <;> rw [heq]
    · exact .inr ⟨rfl, rfl⟩
    · exact .inl hu
  cases h with
  | endOfStream | stringDone => exact .inr ⟨rfl, rfl⟩
  | checksumDone | maskDone | deliversPost => exact hends _ _ _ (by rfl)
  | _ => exact .inl rfl

end

/-- Settles O56: each register's own stages, and what no rule writes. -/
theorem registersAreWrittenOnlyInTheirStages : Obligations.RegistersAreWrittenOnlyInTheirStages := by
  intro s t hinv hstep
  rcases hinv.blockStep_cases hstep with ⟨-, rfl⟩ | ⟨-, i, -, -, hm⟩
  · simp
  refine ⟨?ftype, ?fplen, ?fdlen, ?fcrc, ?mask, ?crcreg, ?buf, hm.result_cases.resolve_left, hm.keeps⟩
  all_goals
    intro hwritten
    by_contra hs
    refine hwritten ?_
  case ftype => exact hm.ftype_eq_of_ne hs
  case fplen => exact hm.fplen_eq_of_ne hs
  case mask => exact hm.mask_eq_of_ne hs
  case fdlen =>
    obtain ⟨hlen, hpad⟩ := not_or.mp hs
    exact hm.fdlen_eq_of_ne hlen hpad
  case fcrc =>
    obtain ⟨hcksum, hrecomp⟩ := not_or.mp hs
    exact hm.fcrc_eq_of_ne hcksum hrecomp
  case crcreg =>
    obtain ⟨hverify, hrecomp⟩ := not_or.mp hs
    exact hm.crcreg_eq_of_ne hverify hrecomp
  case buf =>
    simp only [not_or] at hs
    obtain ⟨hpayload, hhexstr, hpad, hmask⟩ := hs
    exact hm.buf_eq_of_ne hpayload hhexstr hpad hmask

/-! ## The frames counted -/

/-- Settles O57: the rules of EMIT deliver, and only a reset clears FRAMES. -/
theorem framesCountsAcceptedPostRecords : Obligations.FramesCountsAcceptedPostRecords := by
  intro s t hinv hstep
  cases hinv.steps hstep with
  | runs _ _ _ hm =>
    rcases hm.delivered_cases with ⟨hf, hout⟩ | ⟨p, -, hkind, hf, hout⟩ | ⟨p, -, hkind, hf, hout⟩
    · exact .inl ⟨hf, .inl hout⟩
    · exact .inl ⟨hf, .inr ⟨p, hkind, hout⟩⟩
    · exact .inr (.inl ⟨hf, p, hkind, hout⟩)
  | begins _ _ _ _ hb =>
    obtain ⟨-, -, hout, hf⟩ := hb.keeps
    exact .inl ⟨hf, .inl hout⟩
  | @stores index v rest =>
    obtain ⟨-, -, hout, hf, -⟩ := writeReg_keeps (regOfIndex index) v { s with env := rest }
    exact .inl ⟨hf, .inl hout⟩
  | @holds index v rest hrst =>
    obtain ⟨-, -, hout, -⟩ := writeReg_keeps (regOfIndex index) v { s with env := rest }
    exact .inr (.inr ⟨rfl, hout, .inr (.inr hrst)⟩)
  | resets henv => exact .inr (.inr ⟨rfl, rfl, .inl ⟨_, henv⟩⟩)
  | drives henv => exact .inr (.inr ⟨rfl, rfl, .inr (.inl ⟨_, _, henv⟩)⟩)
  | illegal | clears | drops | environment => exact .inl ⟨rfl, .inl rfl⟩

/-! ## The end of a command -/

/-- The steps left from a stage when the stream ends there: one for end-of-input, and in an iteration one more for each
stage and record up to the next header. -/
def stageWeight (s : State) : Nat :=
  match s.seq with
  | .idle | .exec => 0
  | .hexstr | .hdr => 1
  | .type => 2
  | .len => 3
  | .payload | .cksum => 4
  | .mhdr => 5
  | .mval => 6
  | .verify => 7
  | .pad => 5
  | .mask => 4
  | .recomp => 3
  | .emit => if s.pending.map Snapshot.kind = some .pre then 6 else 2

/-- A bound on the steps left: a byte pays for its own step and for one stage more. -/
def stepsLeft (s : State) : Nat := 2 * s.input.ahead.length + stageWeight s

theorem stageWeight_le (s : State) : stageWeight s ≤ 7 := by
  unfold stageWeight
  split <;> (try split) <;> omega

/-- With a stream that has ended and a sink that accepts, a rule ends the command or brings its end nearer. -/
theorem Moves.stepsLeft_lt {i : Instr} {s t : State} (h : Moves i s t) (he : s.input.ended = true)
    (hr : s.sinkReady = true) : t.status.busy = false ∨ stepsLeft t < stepsLeft s := by
  have hbyte {c : Byte} {rest : List Byte} {u : State} (ha : s.input.ahead = c :: rest)
      (hu : u.input.ahead = rest) (hw : stageWeight u ≤ stageWeight s + 1) : stepsLeft u < stepsLeft s := by
    simp only [stepsLeft, ha, hu, List.length_cons]
    omega
  cases h with
  | waitsForPort _ _ hopen => simp [he] at hopen
  | waitsForSink _ _ hnot => simp [hr] at hnot
  | endOfStream | shortRead | wrongByte | noDigit | lengthTooShort | verifyFails | stringDone => exact .inl rfl
  | markerByte _ ha | highDigit _ ha | wordDigit _ ha | payloadByte _ ha => exact .inr (hbyte ha rfl (Nat.le_succ _))
  | stringByte _ _ ha => exact .inr (hbyte ha rfl (Nat.le_succ _))
  | markerDone hs ha =>
    refine .inr (hbyte ha rfl ?_)
    rcases SeqState.marker?_eq_some_iff.mp hs with ⟨hs, -⟩ | ⟨hs, -⟩ <;> simp [stageWeight, hs]
  | typeDone hs ha | lengthOfNoData hs ha | lengthDone hs ha | payloadDone hs ha =>
    exact .inr (hbyte ha rfl (by simp [stageWeight, hs]))
  | checksumDone hs ha | maskDone hs ha =>
    refine or_iff_not_imp_left.mpr fun hbusy => ?_
    obtain ⟨-, heq⟩ := finishOr_of_busy (Bool.of_not_eq_false hbusy)
    exact (congrArg stepsLeft heq).trans_lt (hbyte ha rfl (by simp [stageWeight, hs]))
  | verifyPasses hs | recomputes hs =>
    exact .inr (by simp [stepsLeft, stageWeight, callEmit, snapshotOf, atCompare, afterRecompute, hs])
  | deliversPre hs hp hkind => exact .inr (by simp [stepsLeft, stageWeight, hs, hp, hkind])
  | deliversPost hs hp hkind =>
    refine or_iff_not_imp_left.mpr fun hbusy => ?_
    obtain ⟨-, heq⟩ := finishOr_of_busy (Bool.of_not_eq_false hbusy)
    exact (congrArg stepsLeft heq).trans_lt (by simp [stepsLeft, stageWeight, hs, hp, hkind])
  | pads hs | masks hs => exact .inr (by simp [stepsLeft, stageWeight, afterPad, afterMask, hs])

/-- What a rule leaves of the ports' cooperation: the stream stays ended, and the sink ready. -/
theorem Moves.keeps_cooperation {i : Instr} {s t : State} (h : Moves i s t) :
    t.input.ended = s.input.ended ∧ t.sinkReady = s.sinkReady := by
  obtain ⟨-, -, -, -, -, hr⟩ := h.keeps
  rcases h.input_cases with ⟨hin, -⟩ | ⟨b, rest, -, hin, -⟩ <;> exact ⟨by rw [hin], hr⟩

/-- By induction on the bound: each step ends the command or lowers the bound, and keeps the premises. -/
theorem exists_blockRun_idle (m : Nat) {s : State} (hinv : s.Inv) (he : s.input.ended = true)
    (hr : s.sinkReady = true) (hm : stepsLeft s < m) :
    ∃ n t, n ≤ m ∧ blockRun n s = .next t ∧ t.status.busy = false := by
  induction m generalizing s with
  | zero => omega
  | succ m ih =>
    cases hbusy : s.status.busy with
    | false => exact ⟨0, s, Nat.zero_le _, rfl, hbusy⟩
    | true =>
      obtain ⟨i, t, hd, hst, ht, hmove⟩ := hinv.exists_moves hbusy
      rcases hmove.stepsLeft_lt he hr with hidle | hlt
      · exact ⟨1, t, by omega, blockRun_succ 0 ht, hidle⟩
      · obtain ⟨he', hr'⟩ := hmove.keeps_cooperation
        obtain ⟨n, u, hn, hu, hidle⟩ :=
          ih (hmove.inv hinv hbusy hd hst) (he'.trans he) (hr'.trans hr) (by omega)
        exact ⟨n + 1, u, by omega, (blockRun_succ n ht).trans hu, hidle⟩

/-- Settles O59. -/
theorem commandsEndWhenThePortsCooperate : Obligations.CommandsEndWhenThePortsCooperate := by
  intro s hinv he hr
  have hweight := stageWeight_le s
  exact exists_blockRun_idle _ hinv he hr (by rw [stepsLeft]; omega)

end Sys2Proof.Machine
end

section
/-!
PROOFS. Host accesses and the register map, reset held by `rst`, the words the host reads, and CRC.STR run by the
machine (10_state.md, section 2, 20_memory.md R65 to R67, 70_reset_and_hazards.md R270, 30_encoding.md R97, R98).
-/

namespace Sys2Proof

/-! ## Words of fewer bits -/

theorem setWidth_eq_extractLsb'_zero (v : Word) : v.setWidth 8 = v.extractLsb' 0 8 := by
  ext i hi
  simp

theorem setWidth_eq_zero_append {n m k : Nat} (h : m + n = k) (x : BitVec n) :
    x.setWidth k = (0#m ++ x).cast h := by
  subst h
  ext i hi
  simp only [BitVec.getElem_setWidth, BitVec.cast_eq, BitVec.getElem_append, BitVec.getElem_zero]
  split
  case isTrue hlow => exact BitVec.getLsbD_eq_getElem hlow
  case isFalse hhigh => exact BitVec.getLsbD_of_ge x i (Nat.le_of_not_lt hhigh)

/-- The fields of STATUS (10_state.md R23). -/
theorem eq_statusWord_iff {w : Word} {top : BitVec 20} {code : BitVec 4} {middle : BitVec 3}
    {ovr eosf err done busy : BitVec 1} :
    w = top ++ code ++ middle ++ ovr ++ eosf ++ err ++ done ++ busy ↔
      w.extractLsb' 12 20 = top ∧ w.extractLsb' 8 4 = code ∧ w.extractLsb' 5 3 = middle ∧ w.extractLsb' 4 1 = ovr ∧
        w.extractLsb' 3 1 = eosf ∧ w.extractLsb' 2 1 = err ∧ w.extractLsb' 1 1 = done ∧ w.extractLsb' 0 1 = busy := by
  rw [eq_append_iff_extractLsb' (n := 31) (m := 1), eq_append_iff_extractLsb' (n := 30) (m := 1),
    eq_append_iff_extractLsb' (n := 29) (m := 1), eq_append_iff_extractLsb' (n := 28) (m := 1),
    eq_append_iff_extractLsb' (n := 27) (m := 1), eq_append_iff_extractLsb' (n := 24) (m := 3),
    eq_append_iff_extractLsb' (n := 20) (m := 4)]
  simp [extractLsb'_extractLsb'_add, and_assoc]

theorem getLsbD_of_extractLsb'_eq {w : Word} {k : Nat} {x : Bool} (h : w.extractLsb' k 1 = BitVec.ofBool x) :
    w.getLsbD k = x := by
  simpa using congrArg (BitVec.getLsbD · 0) h

end Sys2Proof

namespace Sys2Proof.Machine

/-! ## The register map -/

/-- The BUFW windows of the map (10_state.md R21, R36). -/
theorem regOfIndex_of_bufw {index : Byte} (hlo : 0x40 ≤ index.toNat) (hhi : index.toNat ≤ 0x7E) :
    regOfIndex index = .bufw (index.toNat - 0x40) := by
  unfold regOfIndex
  split
  case h_13 => exact if_pos ⟨hlo, hhi⟩
  all_goals omega

/-- The reserved indices of the map (10_state.md R35). -/
theorem regOfIndex_of_reserved {index : Byte}
    (h : (0x0C ≤ index.toNat ∧ index.toNat ≤ 0x3F) ∨ 0x7F ≤ index.toNat) : regOfIndex index = .reserved := by
  have hrange : ¬(0x40 ≤ index.toNat ∧ index.toNat ≤ 0x7E) := by omega
  unfold regOfIndex
  split
  case h_13 => exact if_neg hrange
  all_goals omega

/-- A write of a read-only or reserved index stores nothing (10_state.md R21, R35). -/
theorem writeReg_of_readOnly {index : Byte}
    (h : (1 ≤ index.toNat ∧ index.toNat ≤ 3) ∨ (0x0A ≤ index.toNat ∧ index.toNat ≤ 0x3F) ∨ 0x7F ≤ index.toNat)
    (v : Word) (s : State) : writeReg (regOfIndex index) v s = s := by
  have hrange : ¬(0x40 ≤ index.toNat ∧ index.toNat ≤ 0x7E) := by omega
  unfold regOfIndex
  split
  case h_13 =>
    rw [if_neg hrange]
    rfl
  case h_1 | h_2 | h_3 | h_4 | h_11 | h_12 => rfl
  all_goals omega

/-! ## Host writes -/

section
variable {s : State} {index : Byte} {v : Word} {rest : List EnvAct} (henv : s.env = .write index v :: rest)
include henv

/-- A write of an index other than CMD, by BUSY (20_memory.md R66, R67). -/
theorem step_of_write (hindex : index ≠ 0x00#8) :
    step s = if s.status.busy then .next { s with env := rest }
      else .next (holdReset (writeReg (regOfIndex index) v { s with env := rest })) := by
  rw [step_of_cons henv]
  change hostWrite index v _ = _
  unfold hostWrite
  split
  case h_1 hcmd => exact absurd (eq_zero_of_regOfIndex_eq_cmd hcmd) hindex
  case h_2 => rfl

/-- A write to an idle block that is not held by `rst` stores (20_memory.md R66). -/
theorem step_of_store (hbusy : s.status.busy = false) (hrst : s.rst = false) (hindex : index ≠ 0x00#8) :
    step s = .next (writeReg (regOfIndex index) v { s with env := rest }) := by
  simp [step_of_write henv hindex, hbusy, holdReset, hrst]

end

/-- FDLEN takes a legal length (10_state.md R29). -/
theorem legalLength_of_le {old : Byte} {v : Word} (h : (v.extractLsb' 0 8).toNat ≤ 252) :
    legalLength old v = v.extractLsb' 0 8 := by
  rw [← setWidth_eq_extractLsb'_zero] at h ⊢
  exact if_pos h

/-- FDLEN keeps its value against any other (10_state.md R29). -/
theorem legalLength_of_lt {old : Byte} {v : Word} (h : 252 < (v.extractLsb' 0 8).toNat) : legalLength old v = old := by
  rw [← setWidth_eq_extractLsb'_zero] at h
  exact if_neg (Nat.not_le.mpr h)

/-- Settles O43: a write stores what `writeReg` says of the register its index names. -/
theorem hostWritesStoreAsTheRegisterMapSays : Obligations.HostWritesStoreAsTheRegisterMapSays := by
  intro s index v rest henv hbusy hrst
  have hstore := step_of_store henv hbusy hrst
  have hlow := setWidth_eq_extractLsb'_zero v
  refine ⟨?crcreg, ?ftype, ?fplen, ?fdlen, ?fdlenIllegal, ?fcrc, ?mask, ?bufw, ?readOnly⟩
  case crcreg | fcrc | mask =>
    rintro rfl
    exact hstore (by decide)
  case ftype | fplen =>
    rintro rfl
    rw [hstore (by decide), ← hlow]
    rfl
  case fdlen =>
    rintro rfl hle
    rw [hstore (by decide), ← legalLength_of_le (old := s.fdlen) hle]
    rfl
  case fdlenIllegal =>
    rintro rfl hlt
    rw [hstore (by decide)]
    exact congrArg (fun n => Host.Outcome.next { s with env := rest, fdlen := n }) (legalLength_of_lt hlt)
  case bufw =>
    intro hlo hhi
    have hindex : index ≠ 0x00#8 := by rintro rfl; simp at hlo
    rw [hstore hindex, regOfIndex_of_bufw hlo hhi]
    exact ⟨_, rfl, rfl, fun a => Memory.byteAt_writeWord _ _ _ _⟩
  case readOnly =>
    intro hro
    have hindex : index ≠ 0x00#8 := by rintro rfl; simp at hro
    rw [hstore hindex, writeReg_of_readOnly hro]

/-! ## Host reads -/

/-- A read of an idle block returns the register (20_memory.md R66). -/
theorem step_of_read {s : State} {index : Byte} {rest : List EnvAct} (henv : s.env = .read index :: rest)
    (hbusy : s.status.busy = false) :
    step s = .next { s with
      env := rest, reads := { index := index, value := readReg (regOfIndex index) s } :: s.reads } := by
  have hread : ∀ r, readReg r { s with env := rest } = readReg r s := fun r => by cases r <;> rfl
  rw [step_of_cons henv]
  simp [envStep, hostRead, readValue, readIsFree, hbusy, hread]

/-- Settles O44: the value is `readReg`'s, register by register. -/
theorem hostReadsReturnTheRegisterMap : Obligations.HostReadsReturnTheRegisterMap := by
  intro s index rest henv hbusy
  refine ⟨readReg (regOfIndex index) s, step_of_read henv hbusy, ?cmd, ?status, ?errcode, ?result, ?crcreg, ?ftype,
    ?fplen, ?fdlen, ?fcrc, ?mask, ?frames, ?incnt, ?bufw, ?reserved⟩
  case bufw =>
    intro hlo hhi
    rw [regOfIndex_of_bufw hlo hhi]
    rfl
  case reserved =>
    intro hres
    rw [regOfIndex_of_reserved hres]
    rfl
  all_goals rintro rfl
  case cmd | status | result | crcreg | fcrc | mask | frames | incnt => rfl
  case errcode =>
    change errcodeWord s.errcode = _
    cases s.errcode with
    | none => rfl
    | some e => exact setWidth_eq_zero_append (m := 28) rfl e.code
  case ftype => exact setWidth_eq_zero_append (m := 24) rfl s.ftype
  case fplen => exact setWidth_eq_zero_append (m := 24) rfl s.fplen
  case fdlen => exact setWidth_eq_zero_append (m := 24) rfl s.fdlen

/-- STATUS has one index (10_state.md R21). -/
theorem regOfIndex_eq_status_iff {index : Byte} : regOfIndex index = .status ↔ index = 0x01#8 := by
  refine ⟨fun h => ?_, by rintro rfl; rfl⟩
  unfold regOfIndex at h
  split at h
  case h_2 hindex => exact BitVec.eq_of_toNat_eq hindex
  case h_13 => split at h <;> cases h
  all_goals cases h

/-- Settles O45: BUSY makes a write do nothing and a read free, but for STATUS. -/
theorem accessesWhileBusyChangeNothing : Obligations.AccessesWhileBusyChangeNothing := by
  intro s index v rest hbusy
  refine ⟨fun hindex henv => ?write, fun henv => ?status, fun hindex henv => ?free⟩
  case write => simp [step_of_write henv hindex, hbusy]
  case status =>
    rw [step_of_cons henv]
    have hreg : regOfIndex 0x01#8 = .status := rfl
    simp [envStep, hostRead, readValue, readIsFree, hreg, readReg]
  case free =>
    rw [step_of_cons henv]
    have hreg : regOfIndex index ≠ .status := fun h => hindex (regOfIndex_eq_status_iff.mp h)
    simp [envStep, hostRead, readValue, readIsFree, hreg, hbusy]

/-! ## Reset held by `rst` -/

/-- CRCREG has one index (10_state.md R21). -/
theorem regOfIndex_eq_crcreg_iff {index : Byte} : regOfIndex index = .crcreg ↔ index = 0x04#8 := by
  refine ⟨fun h => ?_, by rintro rfl; rfl⟩
  unfold regOfIndex at h
  split at h
  case h_5 hindex => exact BitVec.eq_of_toNat_eq hindex
  case h_13 => split at h <;> cases h
  all_goals cases h

/-- The reset values of the registers outside BUFW (10_state.md R50). -/
theorem readReg_resetBlock {index : Byte} (hindex : index.toNat < 0x40 ∨ 0x7E < index.toNat) (s : State) :
    readReg (regOfIndex index) (resetBlock s) = if index = 0x04#8 then 0xFFFFFFFF#32 else 0#32 := by
  simp only [← regOfIndex_eq_crcreg_iff]
  cases hreg : regOfIndex index with
  | bufw k =>
    have hrange : ¬(0x40 ≤ index.toNat ∧ index.toNat ≤ 0x7E) := by omega
    unfold regOfIndex at hreg
    split at hreg
    case h_13 =>
      rw [if_neg hrange] at hreg
      cases hreg
    all_goals cases hreg
  | status =>
    have hzero : Status.zero.word = 0#32 := by decide
    exact hzero
  | _ => rfl

/-- Settles O47: the reset is `setRst`'s, a CMD write is ignored, and a held block reads as a reset one. -/
theorem rstResetsTheBlockAndHoldsIt : Obligations.RstResetsTheBlockAndHoldsIt := by
  refine ⟨fun s level rest henv => step_of_rst henv, fun s w rest hrst henv => ?cmd,
    fun s index rest hinv hrst henv hindex => ?reads⟩
  case cmd => exact (step_of_writeCmd henv).trans (if_pos hrst)
  case reads =>
    obtain ⟨-, -, -, -, -, hheld⟩ := hinv
    have hreset := hheld hrst
    have hbusy : s.status.busy = false := by rw [← hreset]; rfl
    rw [step_of_read henv hbusy, ← readReg_resetBlock hindex s, hreset]

/-! ## Steps, tables and words -/

/-- Settles O6: each of the three gives the block the turn. -/
theorem stepContinuesTheRunningCommand : Obligations.StepContinuesTheRunningCommand := by
  intro s i hbusy hd
  have hblock {env : List EnvAct} : blockStep { s with env := env } = exec i { s with env := env } :=
    blockStep_of_busy (s := { s with env := env }) hbusy hd
  refine ⟨fun rest henv => ?block, fun henv => ?empty, fun rest henv => ?wait⟩
  case block => exact (step_of_cons henv).trans hblock
  case empty => exact (step_of_nil henv).trans hblock
  case wait => exact (step_of_cons henv).trans ((if_pos hbusy).trans hblock)

/-- Settles O18: the tables are compared entry by entry; the bits of REFL8 are those of a reversal. -/
theorem tableRomsHoldTheirEntries : Obligations.TableRomsHoldTheirEntries := by
  refine ⟨by decide +kernel, by decide +kernel, by decide +kernel, by decide +kernel, fun b i hi => ?_⟩
  rw [refl8, BitVec.getLsbD_reverse, BitVec.getMsbD_eq_getLsbD]
  simp [hi]

/-- Settles O46: STATUS is its fields one after the other, from bit 31 down. -/
theorem statusWordHasItsFieldsInPlace : Obligations.StatusWordHasItsFieldsInPlace := by
  intro f
  obtain ⟨htop, hcode, hmiddle, hovr, heosf, herr, hdone, hbusy⟩ := eq_statusWord_iff.mp (rfl : f.word = _)
  exact ⟨getLsbD_of_extractLsb'_eq hbusy, getLsbD_of_extractLsb'_eq hdone, getLsbD_of_extractLsb'_eq herr,
    getLsbD_of_extractLsb'_eq heosf, getLsbD_of_extractLsb'_eq hovr, hmiddle, hcode, htop⟩

/-- Settles O49: the reset state as it is written, and no byte of BUF written. -/
theorem resetLeavesTheValuesOfTheTable : Obligations.ResetLeavesTheValuesOfTheTable :=
  ⟨rfl, rfl, rfl, rfl, rfl, rfl, rfl, rfl, rfl, rfl, rfl, rfl, rfl, fun _ => rfl⟩

end Sys2Proof.Machine
end

section
/-!
PROOFS. The accepting step of HEX.DSTR and of the frame commands, Pad and Mask done twice, and CRC.STR run by the
machine (41_hex_codec.md R117, 43_frame_decoder.md R160, 44_transform.md R193, R194, 42_crc32.md, section 3,
30_encoding.md R98).
-/

namespace Sys2Proof.Machine

/-! ## The accepting step -/

/-- Settles O15: the checks are `dstrStart`'s, in the same order. -/
theorem hexDstrChecksLengthThenCapacity : Obligations.HexDstrChecksLengthThenCapacity := by
  refine ⟨fun w len cap => decode_eq_ok_hexDstr_iff, fun s len cap hs hcap => ?_⟩
  rw [exec_hexDstr_of_exec hs, dstrStart_of_le hcap]
  refine if_congr Iff.rfl rfl (if_congr Iff.rfl rfl ?_)
  by_cases hlen : len.toNat = 0
  · simp only [dstrDone, hlen]
    rfl
  · simp only [if_neg hlen]
    rfl

/-- Settles O25: the commands that read a header begin with it alike, and FRM.MASKRD with the mask's marker. -/
theorem frameCommandsStartAtTheirMarker : Obligations.FrameCommandsStartAtTheirMarker := by
  refine ⟨fun _ => decode_eq_ok_iff_eq_encode rfl, fun _ => decode_eq_ok_iff_eq_encode rfl,
    fun _ => decode_eq_ok_iff_eq_encode rfl, fun _ => decode_eq_ok_iff_eq_encode rfl, fun s hs hopen => ?opens,
    fun s hs ha he => ?ends, fun s hs => exec_frmMaskrd_of_exec hs⟩
  case opens =>
    exact ⟨(exec_header_of_exec rfl hs).trans (beginHeader_of_open hopen),
      (exec_header_of_exec rfl hs).trans (beginHeader_of_open (s := { s with nf := 0#32 }) hopen),
      (exec_header_of_exec rfl hs).trans (beginHeader_of_open (s := { s with nf := 0#32 }) hopen)⟩
  case ends =>
    exact ⟨(exec_header_of_exec rfl hs).trans (beginHeader_of_eos ha he),
      (exec_header_of_exec rfl hs).trans (beginHeader_of_eos (s := { s with nf := 0#32 }) ha he),
      (exec_header_of_exec rfl hs).trans (beginHeader_of_eos (s := { s with nf := 0#32 }) ha he)⟩

/-! ## Pad and Mask done twice -/

/-- Pad on a padded payload clears no byte. -/
theorem byteAt_afterPad_of_mod {s : State} (h : s.fdlen.toNat % 4 = 0) (a : Nat) :
    (afterPad s).buf.byteAt a = s.buf.byteAt a := by
  rw [byteAt_afterPad, roundup4_of_mod h]
  exact if_neg (by omega)

theorem fdlen_afterPad_of_mod {s : State} (h : s.fdlen.toNat % 4 = 0) : (afterPad s).fdlen = s.fdlen := by
  rw [afterPad, roundup4_of_mod h, BitVec.ofNat_toNat, BitVec.setWidth_eq]

theorem xfPad_idempotent {s t : State} (hn : s.fdlen.toNat ≤ Config.bufSize) (ht : exec .xfPad s = .next t) :
    t.fdlen.toNat % 4 = 0 ∧
    (∃ u, exec .xfPad t = .next u ∧ u.fdlen = t.fdlen ∧ u.result = t.result ∧
      ∀ a, u.buf.byteAt a = t.buf.byteAt a) ∧
    (s.fdlen.toNat % 4 = 0 → t.fdlen = s.fdlen ∧
      crc32 (t.buf.bytes t.fdlen.toNat) = crc32 (s.buf.bytes s.fdlen.toNat)) := by
  obtain rfl : finish { afterPad s with result := BitVec.ofNat 32 (roundup4 s.fdlen.toNat) } = t :=
    Host.Outcome.next.inj ((exec_xfPad_of_le hn).symm.trans ht)
  generalize ht' : finish { afterPad s with result := BitVec.ofNat 32 (roundup4 s.fdlen.toNat) } = t
  have hlen : t.fdlen.toNat = roundup4 s.fdlen.toNat := by rw [← ht']; exact toNat_fdlen_afterPad hn
  have hmod : t.fdlen.toNat % 4 = 0 := by rw [hlen, roundup4_mod]
  have hle : t.fdlen.toNat ≤ Config.bufSize := by rw [hlen]; exact roundup4_le hn
  have hresult : BitVec.ofNat 32 (roundup4 t.fdlen.toNat) = t.result := by rw [roundup4_of_mod hmod, hlen, ← ht']; rfl
  refine ⟨hmod, ⟨_, exec_xfPad_of_le hle, fdlen_afterPad_of_mod hmod, hresult, byteAt_afterPad_of_mod hmod⟩,
    fun halign => ?_⟩
  subst ht'
  have hfdlen : (afterPad s).fdlen = s.fdlen := fdlen_afterPad_of_mod halign
  refine ⟨hfdlen, congrArg crc32 ?_⟩
  change (afterPad s).buf.bytes (afterPad s).fdlen.toNat = _
  rw [hfdlen, Memory.bytes_congr fun a _ => byteAt_afterPad_of_mod halign a]

theorem xfMask_idempotent {s t : State} (hn : s.fdlen.toNat ≤ Config.bufSize) (ht : exec .xfMask s = .next t) :
    ∃ u, exec .xfMask t = .next u ∧ u.fdlen = t.fdlen ∧ u.result = t.result ∧
      ∀ a, u.buf.byteAt a = t.buf.byteAt a := by
  obtain rfl : finish { afterMask s with result := BitVec.ofNat 32 (s.fdlen.toNat / 4 / 2) } = t :=
    Host.Outcome.next.inj ((exec_xfMask_of_le hn).symm.trans ht)
  refine ⟨_, exec_xfMask_of_le hn, rfl, rfl, fun a => ?_⟩
  have htwice : (afterMask (afterMask s)).buf.byteAt a = (afterMask s).buf.byteAt a := by
    rw [byteAt_afterMask, byteAt_afterMask]
    change (if a / 4 % 2 = 1 ∧ a / 4 < s.fdlen.toNat / 4 then _ &&& maskLane s.mask _ else _) = _
    split
    · rw [BitVec.and_assoc, BitVec.and_self]
    · rfl
  exact htwice

/-- Settles O35. -/
theorem padAndMaskAreIdempotent : Obligations.PadAndMaskAreIdempotent :=
  ⟨fun _ _ hn ht => xfPad_idempotent hn ht, fun _ _ hn ht => xfMask_idempotent hn ht⟩

/-! ## CRC.STR -/

/-- A command line of a host program: its word is accepted, and where it finishes at once WAIT is over in one step
(30_encoding.md R97, log 19). -/
theorem core_run_command {s u : State} {i : Instr} {rest : List EnvAct}
    (henv : s.env = lineActs (.command i) ++ rest) (hrst : s.rst = false) (hbusy : s.status.busy = false)
    (herr : s.status.err = false) (hd : decode (encode i) = .ok i) (hne : i ≠ .sreset)
    (hexec : ∀ env, exec i (accept (encode i) { s with env := env }) = .next (finish { u with env := env })) (k : Nat) :
    Sys2Proof.core.run (k + 2) s = Sys2Proof.core.run k (finish { u with env := rest }) := by
  have hsreset : encode i ≠ sresetWord := fun h => hne (Except.ok.inj (hd.symm.trans (h ▸ decode_sresetWord)))
  have hword : step s = .next (finish { u with env := .wait :: rest }) :=
    (step_of_accepted henv hrst hsreset hbusy (.inl herr)).trans ((runWord_of_ok hd _).trans (hexec _))
  have hwait : step (finish { u with env := .wait :: rest }) = .next (finish { u with env := rest }) :=
    step_of_cons (s := finish { u with env := .wait :: rest }) rfl
  rw [core_run_succ_of_step hword, core_run_succ_of_step hwait]

/-- The state an idle block is in after a CRC command with the word `w`. -/
def afterCrcCommand (w crcreg result : Word) (s : State) : State :=
  { s with
    cur := w, seq := .idle, crcreg := crcreg, result := result,
    status := { s.status with busy := false, done := true, eosf := false } }

/-- CRC.BYTE for each byte, then CRC.FINAL, from any running register (42_crc32.md R134). -/
theorem core_run_crcBytes (bytes : List Byte) {s : State} (hrst : s.rst = false) (hbusy : s.status.busy = false)
    (herr : s.status.err = false)
    (henv : s.env =
      ((bytes.map fun b => HostLine.command (.crcByte b)) ++ [HostLine.command .crcFinal]).flatMap lineActs) :
    Sys2Proof.core.run (2 * bytes.length + 2) s = .next { afterCrcCommand 0x22000000#32 (crcRegister s.crcreg bytes)
      (crcFinal (crcRegister s.crcreg bytes)) s with env := [] } := by
  induction bytes generalizing s with
  | nil =>
    exact core_run_command (i := .crcFinal) (u := afterCrcCommand 0x22000000#32 s.crcreg (crcFinal s.crcreg) s) henv
      hrst hbusy herr rfl (by decide) (fun _ => rfl) 0
  | cons b bytes ih =>
    have hstep := core_run_command (i := .crcByte b)
      (u := afterCrcCommand (encode (.crcByte b)) (crcStep s.crcreg b) s.result s) henv hrst hbusy herr
      (decode_encode_crcByte b) (by simp) (fun _ => rfl) (2 * bytes.length + 2)
    exact hstep.trans (ih hrst rfl herr rfl)

/-- Settles O24: CRC.INIT's line, then the bytes from the initial register. -/
theorem crcStrLeavesTheCrcOfItsBytes : Obligations.CrcStrLeavesTheCrcOfItsBytes := by
  intro s bytes hrst hbusy herr henv
  have hinit := core_run_command (i := .crcInit) (u := afterCrcCommand 0x20000000#32 Config.crcInit s.result s) henv
    hrst hbusy herr rfl (by decide) (fun _ => rfl) (2 * bytes.length + 2)
  exact hinit.trans (core_run_crcBytes bytes hrst rfl herr rfl)

end Sys2Proof.Machine
end

section
/-!
PROOFS. Runs of block steps over the texts of the wire: a marker, a pair, a field of 8, a sequence of pairs; and with
them HEX.DSTR, FRM.DECODE and FRM.MASKRD on their texts (41_hex_codec.md R114, R117, R118, 43_frame_decoder.md).
-/

namespace Sys2Proof.Machine

/-! ## A command that runs -/

/-- The block runs the command `i` and stands in its stage `st`. -/
structure Running (i : Instr) (st : SeqState) (s : State) : Prop where
  busy : s.status.busy = true
  decodes : decode s.cur = .ok i
  stands : standsIn i st = true
  seq : s.seq = st

section
variable {i : Instr} {st : SeqState} {s t : State}

theorem Running.step (hr : Running i st s) (hm : Moves i s t) : blockStep s = .next t :=
  (blockStep_of_busy hr.busy hr.decodes).trans (exec_of_moves (by rw [hr.seq]; exact hr.stands) hm)

theorem Running.blockRun_succ (hr : Running i st s) (hm : Moves i s t) (n : Nat) :
    blockRun (n + 1) s = blockRun n t := Machine.blockRun_succ n (hr.step hm)

end

/-! ## Bytes taken -/

/-- `n` bytes have been taken from the port, and `rest` is left. -/
def taken (n : Nat) (rest : List Byte) (s : State) : State :=
  { s with
    input := { s.input with ahead := rest, pos := s.input.pos + n }, incnt := s.incnt + BitVec.ofNat 32 n }

/-- States that differ only in what has been taken are equal if that is. -/
theorem eq_of_taken_eq {t u : State} (h : t = { u with input := t.input, incnt := t.incnt })
    (hinput : t.input = u.input) (hincnt : t.incnt = u.incnt) : t = u := by
  rw [h, hinput, hincnt]

theorem incnt_add_ofNat (c : Word) (m n : Nat) :
    c + BitVec.ofNat 32 m + BitVec.ofNat 32 n = c + BitVec.ofNat 32 (m + n) := by
  rw [BitVec.add_assoc, BitVec.ofNat_add]

theorem taken_taken (m n : Nat) (rest rest' : List Byte) (s : State) :
    taken n rest' (taken m rest s) = taken (m + n) rest' s :=
  eq_of_taken_eq rfl (by simp [taken, Nat.add_assoc]) (incnt_add_ofNat _ _ _)

/-! ## Texts of pairs -/

theorem decodeHexPair_eq_some_iff {h l b : Byte} :
    decodeHexPair h l = some b ↔ ∃ x y, hexval h = some x ∧ hexval l = some y ∧ x ++ y = b := by
  unfold decodeHexPair
  cases hexval h <;> cases hexval l <;> simp

theorem decodePairs_eq_nil {cs : List Byte} (h : decodePairs cs = some []) : cs = [] := by
  unfold decodePairs at h
  split at h
  case h_1 => rfl
  case h_2 => cases h
  case h_3 => split at h <;> cases h

/-- A text of pairs that is not empty begins with a pair. -/
theorem decodePairs_eq_cons {cs : List Byte} {b : Byte} {bs : List Byte} (h : decodePairs cs = some (b :: bs)) :
    ∃ c d rest x y, cs = c :: d :: rest ∧ hexval c = some x ∧ hexval d = some y ∧ x ++ y = b ∧
      decodePairs rest = some bs := by
  unfold decodePairs at h
  split at h
  case h_1 | h_2 => cases h
  case h_3 c d rest =>
    split at h
    case h_1 b' bs' hpair hrest =>
      obtain ⟨rfl, rfl⟩ := List.cons.inj (Option.some.inj h)
      obtain ⟨x, y, hx, hy, hb⟩ := decodeHexPair_eq_some_iff.mp hpair
      exact ⟨c, d, rest, x, y, rfl, hx, hy, hb, hrest⟩
    case h_2 => cases h

theorem length_of_decodePairs {cs bs : List Byte} (h : decodePairs cs = some bs) : cs.length = 2 * bs.length := by
  induction bs generalizing cs with
  | nil => simp [decodePairs_eq_nil h]
  | cons b bs ih =>
    obtain ⟨c, d, rest, x, y, rfl, -, -, -, hrest⟩ := decodePairs_eq_cons h
    rw [List.length_cons, List.length_cons, List.length_cons, ih hrest]
    omega

/-- A text of two sequences is a text of each. -/
theorem decodePairs_eq_append {cs bs bs' : List Byte} (h : decodePairs cs = some (bs ++ bs')) :
    ∃ c c', cs = c ++ c' ∧ decodePairs c = some bs ∧ decodePairs c' = some bs' := by
  induction bs generalizing cs with
  | nil => exact ⟨[], cs, rfl, rfl, h⟩
  | cons b bs ih =>
    obtain ⟨c, d, rest, x, y, rfl, hx, hy, rfl, hrest⟩ := decodePairs_eq_cons h
    obtain ⟨e, e', rfl, he, he'⟩ := ih hrest
    exact ⟨c :: d :: e, e', rfl, by simp [decodePairs, decodeHexPair_of_some hx hy, he], he'⟩

/-- Decoding undoes encoding, for every byte sequence (41_hex_codec.md R118). -/
theorem decodePairs_encodePairs (bs : List Byte) : decodePairs (encodePairs bs) = some bs := by
  induction bs with
  | nil => rfl
  | cons b bs ih => simp [encodePairs, decodePairs, decodeHexPair_hexchar, ih]

/-! ## BUF after a sequence of bytes -/

/-- The bytes written one after the other from the index `a`. -/
def Memory.writeList (m : Memory) : Nat → List Byte → Memory
  | _, [] => m
  | a, b :: bs => Memory.writeList (m.write a b) (a + 1) bs

theorem Memory.byteAt_writeList (m : Memory) (a : Nat) (bs : List Byte) (x : Nat) :
    (m.writeList a bs).byteAt x = if a ≤ x then (bs[x - a]?).getD (m.byteAt x) else m.byteAt x := by
  induction bs generalizing m a with
  | nil => simp [Memory.writeList]
  | cons b bs ih =>
    rw [Memory.writeList, ih, Memory.byteAt_write]
    rcases Nat.lt_trichotomy x a with hlt | rfl | hgt
    · rw [if_neg (by omega), if_neg (by omega), if_neg (by omega)]
    · simp
    · have hsub : x - a = x - (a + 1) + 1 := by omega
      rw [if_pos (by omega), if_neg (by omega), if_pos (by omega), hsub, List.getElem?_cons_succ]

theorem Memory.byteAt_writeList_zero (m : Memory) (bs : List Byte) (x : Nat) :
    (m.writeList 0 bs).byteAt x = (bs[x]?).getD (m.byteAt x) := by
  simp [Memory.byteAt_writeList]

theorem Memory.bytes_writeList_zero (m : Memory) (bs : List Byte) : (m.writeList 0 bs).bytes bs.length = bs := by
  refine List.ext_getElem? fun a => ?_
  rw [Memory.getElem?_bytes, Memory.byteAt_writeList_zero]
  split
  case isTrue h => simp [h]
  case isFalse h => rw [List.getElem?_eq_none (Nat.le_of_not_lt h)]

/-! ## Fields, one after the other -/

section
variable {i : Instr} {st : SeqState} {s : State} {rest : List Byte}

/-- The rest of a marker (43_frame_decoder.md R152). -/
theorem blockRun_marker_rest {marker : List Byte} (hm : st.marker? = some marker) (hlen : marker.length = 5) (b : Byte)
    (bs : List Byte) {s : State} (hr : Running i st s) (hdrop : marker.drop s.k = b :: bs)
    (ha : s.input.ahead = b :: (bs ++ rest)) :
    blockRun (bs.length + 1) s = .next (enter st.afterMarker (taken (bs.length + 1) rest s)) := by
  have hbyte : marker[s.k]? = some b := by
    have h := congrArg (·[0]?) hdrop
    simpa using h
  have hcount : bs.length + s.k = 4 := by
    have h := congrArg List.length hdrop
    rw [List.length_drop, List.length_cons, hlen] at h
    omega
  induction bs generalizing s b with
  | nil =>
    rw [hr.blockRun_succ (.markerDone (by rw [hr.seq]; exact hm) ha hbyte (by simpa using hcount)), hr.seq]
    rfl
  | cons c bs ih =>
    rw [List.length_cons] at hcount ⊢
    have hm' : s.seq.marker? = some marker := by rw [hr.seq]; exact hm
    rw [hr.blockRun_succ (.markerByte hm' ha hbyte (by omega))]
    have hdrop' : marker.drop (s.k + 1) = c :: bs := by
      rw [← List.tail_drop, hdrop, List.tail_cons]
    have hbyte' : marker[s.k + 1]? = some c := by
      have h := congrArg (·[0]?) hdrop'
      simpa using h
    have htaken := taken_taken 1 (bs.length + 1) (c :: (bs ++ rest)) rest s
    rw [Nat.add_comm 1] at htaken
    refine (ih (s := { takeByte (c :: (bs ++ rest)) s with k := s.k + 1 }) c
      ⟨hr.busy, hr.decodes, hr.stands, hr.seq⟩ hdrop' rfl hbyte' (by dsimp only; omega)).trans ?_
    rw [← htaken]
    rfl

/-- A whole marker, from its first byte (43_frame_decoder.md R152). -/
theorem blockRun_marker {marker : List Byte} (hm : st.marker? = some marker) (hr : Running i st s) (hk : s.k = 0)
    (ha : s.input.ahead = marker ++ rest) : blockRun 5 s = .next (enter st.afterMarker (taken 5 rest s)) := by
  rcases SeqState.marker?_eq_some_iff.mp hm with ⟨-, rfl⟩ | ⟨-, rfl⟩
  · exact blockRun_marker_rest hm rfl 0x6D#8 _ hr (by rw [hk]; rfl) ha
  · exact blockRun_marker_rest hm rfl 0x6D#8 _ hr (by rw [hk]; rfl) ha

/-- The state before the second digit of a pair. -/
def afterHigh (x : BitVec 4) (rest : List Byte) (s : State) : State := { takeByte rest s with hi := x, k := s.k + 1 }

/-- A pair: its first digit is kept, and what follows is the rule that its second digit selects. -/
theorem blockRun_pair {c d : Byte} {x : BitVec 4} {t : State} (hr : Running i st s) (hp : st.readsPairs = true)
    (hk : s.k % 2 = 0) (ha : s.input.ahead = c :: d :: rest) (hx : hexval c = some x)
    (hm : Moves i (afterHigh x (d :: rest) s) t) : blockRun 2 s = .next t := by
  rw [hr.blockRun_succ (.highDigit (by rw [hr.seq]; exact hp) ha hx hk)]
  exact Running.blockRun_succ (s := afterHigh x (d :: rest) s) ⟨hr.busy, hr.decodes, hr.stands, hr.seq⟩ hm 0

/-- The state behind a pair that is stored. -/
def afterStoredPair (x y : BitVec 4) (d : Byte) (rest : List Byte) (s : State) : State :=
  storedPair y rest (afterHigh x (d :: rest) s)

@[simp] theorem afterStoredPair_fdlen (x y : BitVec 4) (d : Byte) (rest : List Byte) (s : State) :
    (afterStoredPair x y d rest s).fdlen = s.fdlen := by
  simp only [afterStoredPair, storedPair, afterHigh, takeByte]

theorem Running.afterStoredPair (hr : Running i st s) (x y : BitVec 4) (d : Byte) (rest : List Byte) :
    Running i st (Machine.afterStoredPair x y d rest s) := by
  obtain ⟨hbusy, hd, hst, hseq⟩ := hr
  constructor <;> simpa only [Machine.afterStoredPair, storedPair, afterHigh, takeByte]

/-- A run of pairs that are stored: `last` is what the stage does after the last of `total` bytes. -/
theorem blockRun_storedPairs {last : State → State} {total : Nat} (hp : st.readsPairs = true)
    (htotal : total ≤ Config.bufSize) {fdlen : Byte}
    (hmore : ∀ {u : State} {d : Byte} {rest : List Byte} {n : BitVec 4}, u.seq = st → u.fdlen = fdlen →
      u.input.ahead = d :: rest → hexval d = some n → u.k % 2 = 1 → u.wi < Config.bufSize → u.wi + 1 ≠ total →
      Moves i u (storedPair n rest u))
    (hlast : ∀ {u : State} {d : Byte} {rest : List Byte} {n : BitVec 4}, u.seq = st → u.fdlen = fdlen →
      u.input.ahead = d :: rest → hexval d = some n → u.k % 2 = 1 → u.wi < Config.bufSize → u.wi + 1 = total →
      Moves i u (last (storedPair n rest u)))
    (b : Byte) (bs cs : List Byte) {s : State} (hr : Running i st s) (hfdlen : s.fdlen = fdlen) (hk : s.k % 2 = 0)
    (hcs : decodePairs cs = some (b :: bs)) (hwi : s.wi + bs.length + 1 = total) (ha : s.input.ahead = cs ++ rest) :
    ∃ hi k wi, blockRun cs.length s = .next (last { taken cs.length rest s with
      buf := s.buf.writeList s.wi (b :: bs), hi := hi, k := k, wi := wi }) := by
  induction bs generalizing s b cs with
  | nil =>
    obtain ⟨c, d, cs', x, y, rfl, hx, hy, rfl, hcs'⟩ := decodePairs_eq_cons hcs
    obtain rfl := decodePairs_eq_nil hcs'
    rw [List.length_nil] at hwi
    have hm := hlast (u := afterHigh x (d :: rest) s) hr.seq hfdlen rfl hy (by simp only [afterHigh]; omega)
      (show s.wi < _ by omega) hwi
    refine ⟨x, s.k + 2, s.wi + 1, (blockRun_pair hr hp hk ha hx hm).trans ?_⟩
    exact congrArg (fun u => Host.Outcome.next (last { u with
      buf := s.buf.write s.wi (x ++ y), hi := x, k := s.k + 2, wi := s.wi + 1 })) (taken_taken 1 1 (d :: rest) rest s)
  | cons b' bs ih =>
    obtain ⟨c, d, cs', x, y, rfl, hx, hy, rfl, hcs'⟩ := decodePairs_eq_cons hcs
    rw [List.length_cons] at hwi
    have hm := hmore (u := afterHigh x (d :: (cs' ++ rest)) s) hr.seq hfdlen rfl hy (by simp only [afterHigh]; omega)
      (show s.wi < _ by omega) (show s.wi + 1 ≠ total by omega)
    have hpair : blockRun 2 s = .next (afterStoredPair x y d (cs' ++ rest) s) := blockRun_pair hr hp hk ha hx hm
    obtain ⟨hi, k, wi, hrun⟩ := ih (s := afterStoredPair x y d (cs' ++ rest) s) b' cs' (hr.afterStoredPair x y d _)
      ((afterStoredPair_fdlen ..).trans hfdlen) (by simp only [afterStoredPair, storedPair, afterHigh]; omega) hcs'
      (show s.wi + 1 + bs.length + 1 = total by omega) rfl
    refine ⟨hi, k, wi, ?_⟩
    rw [show (c :: d :: cs').length = 2 + cs'.length by simp; omega, blockRun_add _ hpair, hrun]
    have htaken : taken cs'.length rest (taken 1 (cs' ++ rest) (taken 1 (d :: (cs' ++ rest)) s)) =
        taken (2 + cs'.length) rest s := by rw [taken_taken, taken_taken, ← Nat.add_assoc]
    exact congrArg (fun u => Host.Outcome.next (last { u with
      buf := (s.buf.write s.wi (x ++ y)).writeList (s.wi + 1) (b' :: bs), hi := hi, k := k, wi := wi })) htaken

/-- Two digits more of a field of 8 are a byte more. -/
theorem shiftLeft_or_digits (acc : Word) (x y : BitVec 4) :
    (((acc <<< 4) ||| x.setWidth 32) <<< 4) ||| y.setWidth 32 = (acc <<< 8) ||| (x ++ y).setWidth 32 := by
  rw [setWidth_append_eq_or, BitVec.shiftLeft_or_distrib, ← BitVec.shiftLeft_add, BitVec.or_assoc]

/-- A field of 8 with more bytes behind those read. -/
def wordAfter (acc : Word) (bs : List Byte) : Word := bs.foldl (fun a b => (a <<< 8) ||| b.setWidth 32) acc

/-- A word is the field of its four bytes (20_memory.md R61). -/
theorem wordAfter_wordBytes (w : Word) : wordAfter 0#32 (wordBytes w) = w := by
  have hw : w = w.extractLsb' 24 8 ++ w.extractLsb' 16 8 ++ w.extractLsb' 8 8 ++ w.extractLsb' 0 8 :=
    eq_formatP_word_iff.mpr ⟨rfl, rfl, rfl, rfl⟩
  conv_rhs => rw [hw, ← BitVec.setWidth_eq (_ ++ _ ++ _ ++ _)]
  simp only [setWidth_append_eq_or]
  simp [wordAfter, wordBytes]

/-- The state behind one digit of a field of 8. -/
def afterDigit (x : BitVec 4) (rest : List Byte) (s : State) : State :=
  { takeByte rest s with acc := wordWith x s, k := s.k + 1 }

theorem Running.afterDigit (hr : Running i st s) (x : BitVec 4) (rest : List Byte) :
    Running i st (Machine.afterDigit x rest s) := ⟨hr.busy, hr.decodes, hr.stands, hr.seq⟩

/-- One digit of a field of 8, before its last (41_hex_codec.md R114). -/
theorem Running.step_digit (hr : Running i st s) (hw : st.readsWord = true) {c : Byte} {x : BitVec 4}
    (ha : s.input.ahead = c :: rest) (hx : hexval c = some x) (hk : s.k < 7) :
    blockStep s = .next (Machine.afterDigit x rest s) :=
  hr.step (.wordDigit (by rw [hr.seq]; exact hw) ha hx hk.ne)

/-- The state behind the text of `bs` in a field of 8. -/
def afterWordPairs (bs : List Byte) (n : Nat) (rest : List Byte) (s : State) : State :=
  { taken n rest s with acc := wordAfter s.acc bs, k := s.k + n }

theorem Running.afterWordPairs (hr : Running i st s) (bs : List Byte) (n : Nat) (rest : List Byte) :
    Running i st (Machine.afterWordPairs bs n rest s) := ⟨hr.busy, hr.decodes, hr.stands, hr.seq⟩

/-- Pairs inside a field of 8, before its last digit (41_hex_codec.md R114). -/
theorem blockRun_wordPairs (hw : st.readsWord = true) (bs cs : List Byte) {s : State} (hr : Running i st s)
    (hcs : decodePairs cs = some bs) (hk : s.k + cs.length ≤ 7) (ha : s.input.ahead = cs ++ rest) :
    blockRun cs.length s = .next (afterWordPairs bs cs.length rest s) := by
  induction bs generalizing s cs with
  | nil =>
    obtain rfl := decodePairs_eq_nil hcs
    obtain rfl : s.input.ahead = rest := ha
    exact congrArg Host.Outcome.next (eq_of_taken_eq rfl rfl (BitVec.add_zero _).symm)
  | cons b bs ih =>
    obtain ⟨c, d, cs', x, y, rfl, hx, hy, rfl, hcs'⟩ := decodePairs_eq_cons hcs
    rw [List.length_cons, List.length_cons] at hk ⊢
    have hr1 := hr.afterDigit x (d :: (cs' ++ rest))
    have h1 := hr.step_digit hw ha hx (by omega)
    have h2 := hr1.step_digit hw rfl hy (show s.k + 1 < 7 by omega)
    have hrun := ih cs' (hr1.afterDigit y (cs' ++ rest)) hcs' (show s.k + 1 + 1 + cs'.length ≤ 7 by omega) rfl
    refine (blockRun_succ _ h1).trans ((blockRun_succ _ h2).trans (hrun.trans (congrArg Host.Outcome.next ?_)))
    have htaken : taken cs'.length rest (taken 1 (cs' ++ rest) (taken 1 (d :: (cs' ++ rest)) s)) =
        taken (cs'.length + 1 + 1) rest s :=
      (taken_taken 1 1 (d :: (cs' ++ rest)) (cs' ++ rest) s ▸ taken_taken 2 cs'.length (cs' ++ rest) rest s).trans
        (congrArg (taken · rest s) (by omega))
    have hacc : wordAfter s.acc ((x ++ y) :: bs) =
        wordAfter ((((s.acc <<< 4) ||| x.setWidth 32) <<< 4) ||| y.setWidth 32) bs := by
      rw [shiftLeft_or_digits]
      rfl
    have hcount : s.k + (cs'.length + 1 + 1) = s.k + 1 + 1 + cs'.length := by omega
    calc afterWordPairs bs cs'.length rest (afterDigit y (cs' ++ rest) (afterDigit x (d :: (cs' ++ rest)) s))
        = { taken cs'.length rest (taken 1 (cs' ++ rest) (taken 1 (d :: (cs' ++ rest)) s)) with
            acc := wordAfter ((((s.acc <<< 4) ||| x.setWidth 32) <<< 4) ||| y.setWidth 32) bs
            k := s.k + 1 + 1 + cs'.length } := rfl
      _ = afterWordPairs ((x ++ y) :: bs) (cs'.length + 1 + 1) rest s := by
        rw [htaken, ← hacc, ← hcount]
        rfl

/-- The bytes of a word before its last. -/
def highBytes (w : Word) : List Byte := [w.extractLsb' 24 8, w.extractLsb' 16 8, w.extractLsb' 8 8]

/-- A whole field of 8: `last` is what the stage does with its word (41_hex_codec.md R114). -/
theorem blockRun_word {last : Word → State → State} (hw : st.readsWord = true)
    (hlast : ∀ {u : State} {d : Byte} {rest : List Byte} {n : BitVec 4}, u.seq = st → u.input.ahead = d :: rest →
      hexval d = some n → u.k = 7 → Moves i u (last (wordWith n u) (afterDigit n rest u)))
    {w : Word} {cs : List Byte} (hr : Running i st s) (hk : s.k = 0) (hacc : s.acc = 0#32)
    (hcs : decodePairs cs = some (wordBytes w)) (ha : s.input.ahead = cs ++ rest) :
    blockRun cs.length s = .next (last w { taken cs.length rest s with acc := w, k := 8 }) := by
  obtain ⟨cs', final, rfl, hcs', hfinal⟩ := decodePairs_eq_append (bs := highBytes w) hcs
  obtain ⟨c, d, nothing, x, y, rfl, hx, hy, hb, hnothing⟩ := decodePairs_eq_cons hfinal
  obtain rfl := decodePairs_eq_nil hnothing
  have hlen : cs'.length = 6 := length_of_decodePairs hcs'
  have hsix := blockRun_wordPairs (rest := c :: d :: rest) hw (highBytes w) cs' hr hcs' (by omega) (by simpa using ha)
  rw [hlen] at hsix
  have hr6 := hr.afterWordPairs (highBytes w) 6 (c :: d :: rest)
  have hr7 := hr6.afterDigit x (d :: rest)
  have hseven := hr6.step_digit hw rfl hx (show s.k + 6 < 7 by omega)
  have height := hr7.step (hlast hr7.seq rfl hy (show s.k + 6 + 1 = 7 by omega))
  have hword : wordWith y (afterDigit x (d :: rest) (afterWordPairs (highBytes w) 6 (c :: d :: rest) s)) = w := by
    refine Eq.trans ?_ (wordAfter_wordBytes w)
    rw [wordWith, ← hacc]
    exact (shiftLeft_or_digits _ x y).trans (by rw [hb]; rfl)
  have htaken : taken 1 rest (taken 1 (d :: rest) (taken 6 (c :: d :: rest) s)) = taken 8 rest s := by
    rw [taken_taken, taken_taken]
  have hafter : afterDigit y rest (afterDigit x (d :: rest) (afterWordPairs (highBytes w) 6 (c :: d :: rest) s)) =
      { taken 8 rest s with acc := w, k := 8 } := by
    calc afterDigit y rest (afterDigit x (d :: rest) (afterWordPairs (highBytes w) 6 (c :: d :: rest) s))
        = { taken 1 rest (taken 1 (d :: rest) (taken 6 (c :: d :: rest) s)) with
            acc := wordWith y (afterDigit x (d :: rest) (afterWordPairs (highBytes w) 6 (c :: d :: rest) s))
            k := s.k + 6 + 1 + 1 } := rfl
      _ = { taken 8 rest s with acc := w, k := 8 } := by rw [hword, htaken, hk]
  rw [hword, hafter] at height
  rw [List.length_append, hlen]
  exact (blockRun_add 2 hsix).trans ((blockRun_succ 1 hseven).trans (blockRun_succ 0 height))

end

end Sys2Proof.Machine
end

section
/-!
PROOFS. HEX.DSTR on a text of pairs (41_hex_codec.md R117), and the identity of encode-then-decode (R118).
-/

namespace Sys2Proof.Machine

theorem decode_encode_hexDstr (len : BitVec 10) {cap : Byte} (hcap : cap.toNat ≤ Config.bufSize) :
    decode (encode (.hexDstr len cap)) = .ok (.hexDstr len cap) :=
  decode_encode (decide_eq_true hcap)

/-- The characters of HEX.DSTR, from the first: the bytes stand in BUF from index 0 (41_hex_codec.md R117). -/
theorem blockRun_string {len : BitVec 10} {cap : Byte} {s : State} {rest : List Byte}
    (hr : Running (.hexDstr len cap) .hexstr s) (hk : s.k = 0) (hwi : s.wi = 0) (b : Byte) (bs : List Byte)
    {cs : List Byte} (hcs : decodePairs cs = some (b :: bs)) (hlen : (b :: bs).length = len.toNat / 2)
    (hle : (b :: bs).length ≤ Config.bufSize) (ha : s.input.ahead = cs ++ rest) :
    ∃ hi k wi, blockRun cs.length s = .next (finish { taken cs.length rest s with
      buf := s.buf.writeList 0 (b :: bs), hi := hi, k := k, wi := wi,
      result := BitVec.ofNat 32 (b :: bs).length }) := by
  have hrun := blockRun_storedPairs (i := .hexDstr len cap) (st := .hexstr)
    (last := fun u => finish { u with result := BitVec.ofNat 32 (len.toNat / 2) }) (total := len.toNat / 2) rfl
    (hlen ▸ hle) (fun hs _ ha hv hk hw hmore => .stringByte rfl hs ha hv hk hw hmore)
    (fun hs _ ha hv hk hw hlast => .stringDone rfl hs ha hv hk hw hlast) b bs cs hr rfl (by omega) hcs
    (by rw [hwi, ← hlen, List.length_cons]; omega) ha
  rw [← hlen, hwi] at hrun
  exact hrun

/-- Settles O16: HEX.DSTR starts, and its characters fill BUF; the empty text is done at the start. -/
theorem hexDstrStoresTheDecodedText : Obligations.HexDstrStoresTheDecodedText := by
  intro s len cap cs rest data hs hbusy hcur hcap hcs hlen hle ha
  have hpairs : len.toNat = 2 * data.length := hlen ▸ length_of_decodePairs hcs
  have hstart : exec (.hexDstr len cap) s =
      if len.toNat = 0 then dstrDone len s else .next { enter .hexstr s with wi := 0 } := by
    rw [exec_hexDstr_of_exec hs, dstrStart_of_le hcap, if_neg (by omega), if_neg (by omega)]
  cases data with
  | nil =>
    obtain rfl := decodePairs_eq_nil hcs
    obtain rfl : s.input.ahead = rest := ha
    have hzero : len.toNat = 0 := hpairs
    rw [if_pos hzero, dstrDone, hzero] at hstart
    exact ⟨_, _, hstart, rfl, eq_of_taken_eq rfl rfl (BitVec.add_zero _).symm, fun a => rfl⟩
  | cons b bs =>
    rw [if_neg (by simp [hpairs])] at hstart
    have hr : Running (.hexDstr len cap) .hexstr { enter .hexstr s with wi := 0 } :=
      ⟨hbusy, hcur ▸ decode_encode_hexDstr len hcap, rfl, rfl⟩
    obtain ⟨hi, k, wi, hrun⟩ := blockRun_string hr rfl rfl b bs hcs (by omega) (hle.trans hcap) ha
    exact ⟨_, _, hstart, hrun, rfl, s.buf.byteAt_writeList_zero (b :: bs)⟩

/-- Settles O17: a pair of digits is its byte, and HEX.DSTR reads back the pairs of a sequence. -/
theorem encodeThenDecodeIsTheIdentity : Obligations.EncodeThenDecodeIsTheIdentity := by
  refine ⟨fun s b => ⟨_, _, _, rfl, rfl, decodeHexPair_hexchar b⟩, fun s data rest hle hs hbusy hcur ha => ?_⟩
  have hpairs := decodePairs_encodePairs data
  have hlen : (encodePairs data).length = 2 * data.length := length_of_decodePairs hpairs
  have hcap : (BitVec.ofNat 8 data.length).toNat = data.length := Nat.mod_eq_of_lt (by omega)
  have hlen' : (BitVec.ofNat 10 (2 * data.length)).toNat = 2 * data.length := Nat.mod_eq_of_lt (by omega)
  obtain ⟨t0, t, hexec, hrun, ht, hbytes⟩ := hexDstrStoresTheDecodedText s _ _ _ rest data hs hbusy hcur (by omega)
    hpairs (hlen.trans hlen'.symm) hcap.ge ha
  refine ⟨t0, t, hexec, hlen ▸ hrun, by rw [ht], ?_⟩
  refine (Memory.bytes_congr fun a _ => ?_).trans (s.buf.bytes_writeList_zero data)
  rw [hbytes, Memory.byteAt_writeList_zero]

end Sys2Proof.Machine
end

section
/-!
PROOFS. FRM.DECODE on the text of a frame, FRM.MASKRD on the text of a mask: the stages one after the other
(43_frame_decoder.md R160 to R171).
-/

namespace Sys2Proof.Machine

section
variable {i : Instr} {s : State} {cs rest : List Byte}

/-- The commands that read a frame. -/
def ReadsFrames (i : Instr) : Prop := i = .frmDecode ∨ i = .frmOne ∨ i = .frmRun

/-- The commands that read a mask. -/
def ReadsMasks (i : Instr) : Prop := i = .frmMaskrd ∨ i = .frmOne ∨ i = .frmRun

/-- A running command stays it when only the stage and what it reads and writes change. -/
theorem Running.moved {st st' : SeqState} (hr : Running i st s) {t : State} (hst : standsIn i st' = true)
    (hstatus : t.status = s.status) (hcur : t.cur = s.cur) (hseq : t.seq = st') : Running i st' t :=
  ⟨by rw [hstatus]; exact hr.busy, by rw [hcur]; exact hr.decodes, hst, hseq⟩

/-- The two digits of a pair where the pair ends the stage: `last` is what the stage does with its byte. -/
theorem blockRun_lastPair {st : SeqState} {b : Byte} {last : Byte → State → State} (hr : Running i st s)
    (hp : st.readsPairs = true) (hk : s.k = 0)
    (hlast : ∀ {u : State} {d : Byte} {rest : List Byte} {n : BitVec 4}, u.seq = st → u.input.ahead = d :: rest →
      hexval d = some n → u.k % 2 = 1 → u.hi ++ n = b → Moves i u (last b { takeByte rest u with k := u.k + 1 }))
    (hcs : decodePairs cs = some [b]) (ha : s.input.ahead = cs ++ rest) :
    ∃ hi, blockRun 2 s = .next (last b { taken 2 rest s with hi := hi, k := 2 }) := by
  obtain ⟨c, d, nothing, x, y, rfl, hx, hy, hb, hnothing⟩ := decodePairs_eq_cons hcs
  obtain rfl := decodePairs_eq_nil hnothing
  have hm := hlast (u := afterHigh x (d :: rest) s) hr.seq rfl hy (by simp [afterHigh, hk]) hb
  refine ⟨x, (blockRun_pair hr hp (by rw [hk]) ha hx hm).trans ?_⟩
  rw [← taken_taken 1 1 (d :: rest), ← show s.k + 1 + 1 = 2 by rw [hk]]
  rfl

/-- The type's two digits (43_frame_decoder.md R162). -/
theorem blockRun_type {ty : Byte} (hr : Running i .type s) (hk : s.k = 0) (hcs : decodePairs cs = some [ty])
    (ha : s.input.ahead = cs ++ rest) :
    ∃ hi, blockRun 2 s = .next (enter .len { taken 2 rest s with ftype := ty, hi := hi }) :=
  blockRun_lastPair (last := fun b u => enter .len { u with ftype := b }) hr rfl hk
    (fun hs ha hv hk hb => hb ▸ .typeDone hs ha hv hk) hcs ha

/-- The state before the length of a frame of the type `ty`. -/
def beforeLength (ty : Byte) (hi : BitVec 4) (rest : List Byte) (s : State) : State :=
  enter .len { taken 7 rest s with ftype := ty, hi := hi }

/-- Marker and type of a frame (43_frame_decoder.md R160 to R162). -/
theorem blockRun_header {ty : Byte} (hi : ReadsFrames i) (hr : Running i .hdr s) (hk : s.k = 0)
    (ht : decodePairs cs = some [ty]) (ha : s.input.ahead = Config.hdrMarker ++ (cs ++ rest)) :
    ∃ hi, blockRun 7 s = .next (beforeLength ty hi rest s) := by
  have hmarker := blockRun_marker rfl hr hk ha
  obtain ⟨hi, htype⟩ := blockRun_type (s := enter .type (taken 5 (cs ++ rest) s))
    (hr.moved (standsIn_type_iff.mpr hi) rfl rfl rfl) rfl ht rfl
  refine ⟨hi, (blockRun_add 2 hmarker).trans (htype.trans ?_)⟩
  rw [beforeLength, ← taken_taken 5 2 (cs ++ rest)]
  rfl

/-- A length with `n` bytes of data behind it. -/
theorem toNat_ofNat_add_four {n : Nat} (hn : n ≤ 251) : (BitVec.ofNat 8 (n + 4)).toNat = n + 4 :=
  Nat.mod_eq_of_lt (by omega)

theorem ofNat_add_four_sub_four (n : Nat) : BitVec.ofNat 8 (n + 4) - 4#8 = BitVec.ofNat 8 n := by
  rw [BitVec.ofNat_add]
  exact BitVec.add_sub_cancel _ _

/-- The length of a frame without data (43_frame_decoder.md R163, R164). -/
theorem blockRun_lengthOfNoData {v : Byte} (hr : Running i .len s) (hk : s.k = 0) (hlen : v.toNat = 4)
    (hcs : decodePairs cs = some [v]) (ha : s.input.ahead = cs ++ rest) :
    ∃ hi, blockRun 2 s = .next (enter .cksum { taken 2 rest s with
      fplen := v, fdlen := v - 4#8, hi := hi }) :=
  blockRun_lastPair
    (last := fun b u => enter .cksum { u with fplen := b, fdlen := b - 4#8 }) hr rfl hk
    (fun hs ha hv hk hb => hb ▸ .lengthOfNoData hs ha hv hk (by rw [hb]; exact hlen)) hcs ha

/-- The state before the payload of a frame of the length `v`. -/
def beforePayload (v : Byte) (hi : BitVec 4) (rest : List Byte) (s : State) : State :=
  { enter .payload { taken 2 rest s with fplen := v, fdlen := v - 4#8, hi := hi } with wi := 0 }

/-- The length of a frame with data (43_frame_decoder.md R163). -/
theorem blockRun_lengthOfData {v : Byte} (hr : Running i .len s) (hk : s.k = 0) (hlen : 4 < v.toNat)
    (hcs : decodePairs cs = some [v]) (ha : s.input.ahead = cs ++ rest) :
    ∃ hi, blockRun 2 s = .next (beforePayload v hi rest s) :=
  blockRun_lastPair
    (last := fun b u => { enter .payload { u with fplen := b, fdlen := b - 4#8 } with wi := 0 }) hr rfl hk
    (fun hs ha hv hk hb => hb ▸ .lengthDone hs ha hv hk (by rw [hb]; exact hlen)) hcs ha

/-- The payload (43_frame_decoder.md R164). -/
theorem blockRun_payload {data : List Byte} (hr : Running i .payload s) (hk : s.k = 0) (hwi : s.wi = 0)
    (hne : data ≠ []) (hle : data.length ≤ 251) (hfdlen : s.fdlen = BitVec.ofNat 8 data.length)
    (hcs : decodePairs cs = some data) (ha : s.input.ahead = cs ++ rest) :
    ∃ hi wi, blockRun cs.length s = .next (enter .cksum { taken cs.length rest s with
      buf := s.buf.writeList 0 data, hi := hi, wi := wi }) := by
  obtain ⟨b, bs, rfl⟩ := List.exists_cons_of_ne_nil hne
  have htotal : (BitVec.ofNat 8 (b :: bs).length).toNat = (b :: bs).length := Nat.mod_eq_of_lt (by omega)
  obtain ⟨hi, k, wi, hrun⟩ := blockRun_storedPairs (last := enter .cksum) (total := (b :: bs).length) rfl
    (hle.trans (by decide))
    (fun hs hf ha hv hk hw hmore => .payloadByte hs ha hv hk hw (by rw [hf, htotal]; exact hmore))
    (fun hs hf ha hv hk hw hlast => .payloadDone hs ha hv hk hw (by rw [hf, htotal]; exact hlast))
    b bs cs hr hfdlen (by omega) hcs (by rw [hwi, List.length_cons]; omega) ha
  rw [hwi] at hrun
  exact ⟨hi, wi, hrun⟩

/-- The state before the checksum of a frame with the data `data`, `n` characters behind its type. -/
def beforeChecksum (data : List Byte) (n : Nat) (hi : BitVec 4) (wi : Nat) (rest : List Byte) (s : State) : State :=
  enter .cksum { taken n rest s with
    fplen := BitVec.ofNat 8 (data.length + 4), fdlen := BitVec.ofNat 8 data.length
    buf := s.buf.writeList 0 data, hi := hi, wi := wi }

/-- Length and payload of a frame (43_frame_decoder.md R163, R164). -/
theorem blockRun_data {data l d : List Byte} (hi : ReadsFrames i) (hr : Running i .len s) (hk : s.k = 0)
    (hle : data.length ≤ 251) (hl : decodePairs l = some [BitVec.ofNat 8 (data.length + 4)])
    (hd : decodePairs d = some data) (ha : s.input.ahead = l ++ (d ++ rest)) :
    ∃ hi wi, blockRun (2 + d.length) s = .next (beforeChecksum data (2 + d.length) hi wi rest s) := by
  have hv := toNat_ofNat_add_four hle
  unfold beforeChecksum
  rw [← ofNat_add_four_sub_four data.length]
  cases data with
  | nil =>
    obtain rfl := decodePairs_eq_nil hd
    obtain ⟨hi, hrun⟩ := blockRun_lengthOfNoData hr hk hv hl ha
    exact ⟨hi, s.wi, hrun⟩
  | cons b bs =>
    obtain ⟨hi', hlen⟩ := blockRun_lengthOfData hr hk (by rw [hv, List.length_cons]; omega) hl ha
    obtain ⟨hi, wi, hrun⟩ := blockRun_payload (s := beforePayload _ hi' (d ++ rest) s)
      (hr.moved (standsIn_payload_iff.mpr hi) rfl rfl rfl) rfl rfl (List.cons_ne_nil b bs) hle
      (ofNat_add_four_sub_four _) hd rfl
    refine ⟨hi, wi, (blockRun_add d.length hlen).trans (hrun.trans ?_)⟩
    simp only [beforePayload, enter, taken, incnt_add_ofNat, Nat.add_assoc]

/-- The state behind the text of a frame of `n` characters, before the command goes on. -/
def frameRead (ty : Byte) (data : List Byte) (crc : Word) (n : Nat) (rest : List Byte) (hi : BitVec 4) (wi : Nat)
    (s : State) : State :=
  { taken n rest s with
    seq := .cksum, ftype := ty, fplen := BitVec.ofNat 8 (data.length + 4), fdlen := BitVec.ofNat 8 data.length,
    fcrc := crc, buf := s.buf.writeList 0 data, k := 8, acc := crc, hi := hi, wi := wi }

/-- The claimed checksum (43_frame_decoder.md R165). -/
theorem blockRun_checksum {crc : Word} (hr : Running i .cksum s) (hk : s.k = 0) (hacc : s.acc = 0#32)
    (hcs : decodePairs cs = some (wordBytes crc)) (ha : s.input.ahead = cs ++ rest) :
    blockRun cs.length s =
      .next (afterDecode i { taken cs.length rest s with acc := crc, k := 8, fcrc := crc }) :=
  blockRun_word (last := fun w u => afterDecode i { u with fcrc := w }) rfl
    (fun hs ha hv hk => .checksumDone hs ha hv hk) hr hk hacc hcs ha

theorem length_of_isFrameText {ty : Byte} {data : List Byte} {crc : Word} (h : isFrameText ty data crc cs) :
    cs.length = 2 * (data.length + 4) + 9 := by
  obtain ⟨t, l, d, c, rfl, -, ht, hl, hd, hc⟩ := h
  have hmarker : Config.hdrMarker.length = 5 := rfl
  have htype : t.length = 2 := length_of_decodePairs ht
  have hlen : l.length = 2 := length_of_decodePairs hl
  have hdata : d.length = 2 * data.length := length_of_decodePairs hd
  have hcrc : c.length = 8 := length_of_decodePairs hc
  simp only [List.length_append]
  omega

/-- A frame, from the first byte of its marker (43_frame_decoder.md R160 to R165). -/
theorem blockRun_frame {ty : Byte} {data : List Byte} {crc : Word} (hi : ReadsFrames i) (hr : Running i .hdr s)
    (hk : s.k = 0) (htext : isFrameText ty data crc cs) (ha : s.input.ahead = cs ++ rest) :
    ∃ hi wi, blockRun cs.length s = .next (afterDecode i (frameRead ty data crc cs.length rest hi wi s)) := by
  obtain ⟨t, l, d, c, rfl, hle, ht, hl, hd, hc⟩ := htext
  have ha' : s.input.ahead = Config.hdrMarker ++ (t ++ (l ++ (d ++ (c ++ rest)))) := by
    simpa only [List.append_assoc] using ha
  obtain ⟨hi₁, hheader⟩ := blockRun_header hi hr hk ht ha'
  obtain ⟨hi₂, wi, hdata⟩ := blockRun_data (s := beforeLength ty hi₁ (l ++ (d ++ (c ++ rest))) s) hi
    (hr.moved (standsIn_len_iff.mpr hi) rfl rfl rfl) rfl hle hl hd (rest := c ++ rest) rfl
  have hcksum := blockRun_checksum (rest := rest)
    (s := beforeChecksum data (2 + d.length) hi₂ wi (c ++ rest) (beforeLength ty hi₁ (l ++ (d ++ (c ++ rest))) s))
    (hr.moved (standsIn_cksum_iff.mpr hi) rfl rfl rfl) rfl rfl hc rfl
  have hlen : (Config.hdrMarker ++ t ++ l ++ d ++ c).length = 7 + (2 + d.length + c.length) := by
    simp only [List.length_append, length_of_decodePairs ht, length_of_decodePairs hl]
    simp only [Config.hdrMarker, List.length_cons, List.length_nil]
    omega
  rw [hlen]
  refine ⟨hi₂, wi, (blockRun_add _ hheader).trans ((blockRun_add _ hdata).trans (hcksum.trans ?_))⟩
  simp only [frameRead, beforeChecksum, beforeLength, enter, taken, incnt_add_ofNat, Nat.add_assoc]

/-- The state behind the text of a mask, before the command goes on. -/
def maskRead (m : Word) (rest : List Byte) (s : State) : State :=
  { taken 13 rest s with seq := .mval, mask := m, k := 8, acc := m }

theorem length_of_isMaskText {m : Word} (h : isMaskText m cs) : cs.length = 13 := by
  obtain ⟨v, rfl, hv⟩ := h
  have hlen : v.length = 8 := length_of_decodePairs hv
  simp [Config.maskMarker, hlen]

/-- A mask, from the first byte of its marker (43_frame_decoder.md R167, R168). -/
theorem blockRun_mask {m : Word} (hi : ReadsMasks i) (hr : Running i .mhdr s) (hk : s.k = 0) (htext : isMaskText m cs)
    (ha : s.input.ahead = cs ++ rest) : blockRun 13 s = .next (afterMaskRead i (maskRead m rest s)) := by
  obtain ⟨v, rfl, hv⟩ := htext
  have hlen : v.length = 8 := length_of_decodePairs hv
  have hmarker := blockRun_marker rfl hr hk (ha.trans (List.append_assoc ..))
  have hword := blockRun_word (rest := rest) (s := enter .mval (taken 5 (v ++ rest) s))
    (last := fun w u => afterMaskRead i { u with mask := w }) rfl (fun hs ha hv hk => .maskDone hs ha hv hk)
    (hr.moved (standsIn_mval_iff.mpr hi) rfl rfl rfl) rfl rfl hv rfl
  rw [hlen] at hword
  refine (blockRun_add 8 hmarker).trans (hword.trans ?_)
  rw [maskRead, ← taken_taken 5 8 (v ++ rest)]
  rfl

end

/-- Settles O26: FRM.DECODE starts, and the stages of a frame follow each other. -/
theorem frmDecodeReadsAFrame : Obligations.FrmDecodeReadsAFrame := by
  intro s ty data crc cs rest hs hbusy hcur htext ha
  have hlen := length_of_isFrameText htext
  have hopen : ¬(s.input.ahead = [] ∧ s.input.ended = true) := fun h => by
    have hnil := (List.append_eq_nil_iff.mp (ha.symm.trans h.1)).1
    simp [hnil] at hlen
  have hr : Running .frmDecode .hdr (enter .hdr s) := ⟨hbusy, hcur ▸ decode_encode rfl, rfl, rfl⟩
  obtain ⟨hi, wi, hrun⟩ := blockRun_frame (.inl rfl) hr rfl htext ha
  exact ⟨hlen, _, _, (exec_header_of_exec rfl hs).trans (beginHeader_of_open hopen), hrun, rfl,
    s.buf.byteAt_writeList_zero data⟩

/-- Settles O27: FRM.MASKRD starts, and the marker and the word follow. -/
theorem frmMaskrdReadsAMask : Obligations.FrmMaskrdReadsAMask := by
  intro s m cs rest hs hbusy hcur htext ha
  have hr : Running .frmMaskrd .mhdr (enter .mhdr s) := ⟨hbusy, hcur ▸ decode_encode rfl, rfl, rfl⟩
  exact ⟨length_of_isMaskText htext, _, _, exec_frmMaskrd_of_exec hs, blockRun_mask (.inl rfl) hr rfl htext ha, rfl⟩

end Sys2Proof.Machine
end

section
/-!
PROOFS. A frame unit through the pipeline of FRM.ONE and FRM.RUN, and FRM.RUN on a stream of units (45_pipeline.md R210
to R216).
-/

namespace Sys2Proof.Machine

/-! ## Pad and Mask on the bytes of a payload -/

/-- Pad on BUF is Pad on the payload's bytes (44_transform.md R192). -/
theorem bytes_afterPad (s : State) :
    (afterPad s).buf.bytes (roundup4 s.fdlen.toNat) = padBytes (s.buf.bytes s.fdlen.toNat) := by
  refine List.ext_getElem? fun a => ?_
  have hle := le_roundup4 s.fdlen.toNat
  rw [Memory.getElem?_bytes, byteAt_afterPad, padBytes, Memory.length_bytes, List.getElem?_append,
    Memory.length_bytes, Memory.getElem?_bytes, List.getElem?_replicate]
  rcases Nat.lt_or_ge a s.fdlen.toNat with hlt | hge
  · rw [if_pos (by omega), if_neg (by omega), if_pos hlt, if_pos hlt]
  · rw [if_neg (Nat.not_lt.mpr hge)]
    exact if_ctx_congr (by omega) (fun h => by rw [if_pos ⟨hge, by omega⟩]) (fun _ => rfl)

/-- Mask on BUF is Mask on the payload's bytes (44_transform.md R194, R195). -/
theorem bytes_afterMask (s : State) :
    (afterMask s).buf.bytes s.fdlen.toNat = maskBytes s.mask (s.buf.bytes s.fdlen.toNat) := by
  refine List.ext_getElem? fun a => ?_
  rw [Memory.getElem?_bytes, byteAt_afterMask, maskBytes, List.getElem?_mapIdx, Memory.getElem?_bytes,
    Memory.length_bytes]
  split <;> rfl

/-! ## The transform of a frame -/

/-- A state after Pad, Mask and Recompute (44_transform.md R192 to R197). -/
def afterTransform (s : State) : State := afterRecompute (afterMask (afterPad s))

@[simp] theorem afterTransform_status (s : State) : (afterTransform s).status = s.status := by
  simp only [afterTransform, afterRecompute, afterMask, afterPad, crcOverBuf_status]

@[simp] theorem afterTransform_cur (s : State) : (afterTransform s).cur = s.cur := by
  simp only [afterTransform, afterRecompute, afterMask, afterPad, crcOverBuf_cur]

@[simp] theorem afterTransform_sinkReady (s : State) : (afterTransform s).sinkReady = s.sinkReady := by
  simp only [afterTransform, afterRecompute, afterMask, afterPad, crcOverBuf_sinkReady]

/-- The record that Recompute takes of the transformed frame (45_pipeline.md R210). -/
def postRecordOf (s : State) : Snapshot := snapshotOf .post (afterTransform s) (afterPad s).fdlen.toNat

/-- A frame that is transformed, and whose records are delivered and counted (45_pipeline.md R211). -/
def transformed (s : State) : State :=
  { afterTransform s with
    seq := .emit, k := 0, acc := 0#32, pending := none, nf := s.nf + 1#32, frames := s.frames + 1#32
    delivered := s.delivered ++ [snapshotOf .pre s s.fdlen.toNat, postRecordOf s] }

section
variable {i : Instr} {s : State}

/-- A frame whose PRE record is delivered (45_pipeline.md R211). -/
def afterPre (s : State) : State :=
  enter .pad (deliver (snapshotOf .pre s s.fdlen.toNat) (crcOverBuf s.fdlen.toNat s))

/-- A frame whose POST record waits for the sink (45_pipeline.md R211). -/
def beforePost (s : State) : State :=
  { afterTransform s with seq := .emit, k := 0, acc := 0#32, pending := some (postRecordOf s) }

/-- The transform reads nothing that Verify and PRE write. -/
theorem countFrame_beforePost_afterPre (s : State) :
    countFrame (deliver (postRecordOf (afterPre s)) (beforePost (afterPre s))) = transformed s := by
  simp only [countFrame, deliver, beforePost, postRecordOf, snapshotOf, transformed, afterTransform, afterRecompute,
    afterMask, afterPad, afterPre, crcOverBuf, enter, List.append_assoc, List.cons_append, List.nil_append]

/-- Verify and PRE (45_pipeline.md R211). -/
theorem blockRun_verify (hi : i = .frmOne ∨ i = .frmRun) (hr : Running i .verify s)
    (hn : s.fdlen.toNat ≤ Config.bufSize) (hcrc : crc32 (s.buf.bytes s.fdlen.toNat) = s.fcrc)
    (hready : s.sinkReady = true) :
    blockRun 2 s = .next (afterPre s) := by
  rw [hr.blockRun_succ (.verifyPasses hr.seq hn hcrc)]
  have hemit : Running i .emit (callEmit .pre (atCompare s.result s) s.fdlen.toNat) :=
    hr.moved (standsIn_emit_iff.mpr hi) rfl rfl rfl
  exact hemit.blockRun_succ (.deliversPre (p := snapshotOf .pre s s.fdlen.toNat) rfl rfl rfl hready) 0

/-- Pad, Mask and Recompute (45_pipeline.md R211). -/
theorem blockRun_pad (hi : i = .frmOne ∨ i = .frmRun) (hr : Running i .pad s) (hn : s.fdlen.toNat ≤ Config.bufSize) :
    blockRun 3 s = .next (beforePost s) := by
  have hn' : (afterPad s).fdlen.toNat ≤ Config.bufSize := by rw [toNat_fdlen_afterPad hn]; exact roundup4_le hn
  have hmask : Running i .mask (enter .mask (afterPad s)) := hr.moved (standsIn_mask_iff.mpr hi) rfl rfl rfl
  have hrecomp : Running i .recomp (enter .recomp (afterMask (enter .mask (afterPad s)))) :=
    hr.moved (standsIn_recomp_iff.mpr hi) rfl rfl rfl
  rw [hr.blockRun_succ (.pads hr.seq hn), hmask.blockRun_succ (.masks rfl hn')]
  exact hrecomp.blockRun_succ (.recomputes rfl hn') 0

/-- The stages behind the mask of a frame whose checksum is right, with a sink that accepts (45_pipeline.md R211). -/
theorem blockRun_transform (hi : i = .frmOne ∨ i = .frmRun) (hr : Running i .verify s)
    (hn : s.fdlen.toNat ≤ Config.bufSize) (hcrc : crc32 (s.buf.bytes s.fdlen.toNat) = s.fcrc)
    (hready : s.sinkReady = true) : blockRun 6 s = .next (afterFrame i (transformed s)) := by
  have hverify := blockRun_verify hi hr hn hcrc hready
  have hpad := blockRun_pad (s := afterPre s) hi (hr.moved (standsIn_pad_iff.mpr hi) rfl rfl rfl) hn
  have hemit : Running i .emit (beforePost (afterPre s)) :=
    hr.moved (standsIn_emit_iff.mpr hi) (by simp [beforePost, afterPre]) (by simp [beforePost, afterPre]) rfl
  have hpost := hemit.blockRun_succ (.deliversPost (p := postRecordOf (afterPre s)) rfl rfl rfl
    (by simp [beforePost, afterPre, hready])) 0
  rw [countFrame_beforePost_afterPre] at hpost
  exact (blockRun_add 4 hverify).trans ((blockRun_add 1 hpad).trans hpost)

end

/-! ## A frame unit -/

section
variable {s : State}

/-- The bytes of a transformed payload (45_pipeline.md R216). -/
theorem bytes_afterTransform (hn : s.fdlen.toNat ≤ Config.bufSize) :
    (afterTransform s).buf.bytes (afterPad s).fdlen.toNat =
      maskBytes s.mask (padBytes (s.buf.bytes s.fdlen.toNat)) := by
  rw [← bytes_afterPad, ← toNat_fdlen_afterPad hn]
  exact bytes_afterMask (afterPad s)

/-- What the transform writes (44_transform.md R192, R194, R196). -/
theorem afterTransform_eq (s : State) :
    afterTransform s =
      { s with
        seq := .recomp, buf := (afterTransform s).buf, fdlen := (afterPad s).fdlen
        fcrc := crc32 ((afterTransform s).buf.bytes (afterPad s).fdlen.toNat)
        crcreg := crcRegister Config.crcInit ((afterTransform s).buf.bytes (afterPad s).fdlen.toNat) } := by
  simp only [afterTransform, afterRecompute, afterMask, afterPad, crcOverBuf]

/-- The transform leaves the bytes behind the padded payload alone. -/
theorem byteAt_afterTransform_of_le (hn : s.fdlen.toNat ≤ Config.bufSize) {a : Nat}
    (ha : roundup4 s.fdlen.toNat ≤ a) : (afterTransform s).buf.byteAt a = s.buf.byteAt a := by
  have hbuf : (afterTransform s).buf = (afterMask (afterPad s)).buf := by
    simp only [afterTransform, afterRecompute, crcOverBuf_buf]
  have hlen := toNat_fdlen_afterPad hn
  rw [hbuf, byteAt_afterMask, byteAt_afterPad, if_neg (by omega), if_neg (by omega)]

end

/-- The state behind the text of a unit of `n` characters, before Verify. -/
def unitRead (u : FrameUnit) (n : Nat) (rest : List Byte) (hi : BitVec 4) (wi : Nat) (s : State) : State :=
  { taken n rest s with
    seq := .verify, ftype := u.type, fplen := BitVec.ofNat 8 (u.data.length + 4),
    fdlen := BitVec.ofNat 8 u.data.length, fcrc := crc32 u.data, mask := u.mask, buf := s.buf.writeList 0 u.data
    k := 0, acc := 0#32, hi := hi, wi := wi }

section
variable {u : FrameUnit} {n : Nat} {cs rest : List Byte} {hi : BitVec 4} {wi : Nat} {s : State}

theorem isUnitText.length_data_le (h : isUnitText u cs) : u.data.length ≤ 251 := by
  obtain ⟨f, m, -, ⟨t, l, d, c, -, hle, -⟩, -⟩ := h
  exact hle

theorem length_of_isUnitText (h : isUnitText u cs) : cs.length = 2 * (u.data.length + 4) + 22 := by
  obtain ⟨f, m, rfl, hf, hm⟩ := h
  rw [List.length_append, length_of_isFrameText hf, length_of_isMaskText hm]

/-- A unit, from the first byte of its header to Verify (43_frame_decoder.md R160 to R168). -/
theorem blockRun_unitText {i : Instr} (hi : i = .frmOne ∨ i = .frmRun) (hr : Running i .hdr s) (hk : s.k = 0)
    (htext : isUnitText u cs) (ha : s.input.ahead = cs ++ rest) :
    ∃ hi wi, blockRun cs.length s = .next (unitRead u cs.length rest hi wi s) := by
  obtain ⟨f, m, rfl, hf, hm⟩ := htext
  have hdecode (t : State) : afterDecode i t = enter .mhdr t := if_neg (by rcases hi with rfl | rfl <;> decide)
  have hmask (t : State) : afterMaskRead i t = enter .verify t := if_neg (by rcases hi with rfl | rfl <;> decide)
  obtain ⟨hi', wi, hframe⟩ := blockRun_frame (.inr hi) hr hk hf (ha.trans (List.append_assoc ..))
  rw [hdecode] at hframe
  have hvalue := blockRun_mask (rest := rest)
    (s := enter .mhdr (frameRead u.type u.data (crc32 u.data) f.length (m ++ rest) hi' wi s)) (.inr hi)
    (hr.moved (standsIn_mhdr_iff.mpr (.inr hi)) rfl rfl rfl) rfl hm rfl
  rw [hmask] at hvalue
  refine ⟨hi', wi, ?_⟩
  rw [List.length_append, length_of_isMaskText hm]
  refine (blockRun_add 13 hframe).trans (hvalue.trans ?_)
  rw [unitRead, ← taken_taken f.length 13 (m ++ rest)]
  rfl

theorem toNat_fdlen_unitRead (hle : u.data.length ≤ 251) : (unitRead u n rest hi wi s).fdlen.toNat = u.data.length :=
  Nat.mod_eq_of_lt (show u.data.length < 256 by omega)

theorem bytes_unitRead (hle : u.data.length ≤ 251) :
    (unitRead u n rest hi wi s).buf.bytes (unitRead u n rest hi wi s).fdlen.toNat = u.data := by
  rw [toNat_fdlen_unitRead hle]
  exact s.buf.bytes_writeList_zero u.data

/-- The record of PRE of a unit (45_pipeline.md R210). -/
theorem snapshotOf_unitRead (hle : u.data.length ≤ 251) :
    snapshotOf .pre (unitRead u n rest hi wi s) (unitRead u n rest hi wi s).fdlen.toNat = u.preRecord := by
  rw [snapshotOf, bytes_unitRead hle]
  rfl

theorem bytes_afterTransform_unitRead (hle : u.data.length ≤ 251) :
    (afterTransform (unitRead u n rest hi wi s)).buf.bytes (afterPad (unitRead u n rest hi wi s)).fdlen.toNat =
      u.postData := by
  rw [bytes_afterTransform (by rw [toNat_fdlen_unitRead hle]; exact hle.trans (by decide)), bytes_unitRead hle]
  rfl

theorem fdlen_afterPad_unitRead (hle : u.data.length ≤ 251) :
    (afterPad (unitRead u n rest hi wi s)).fdlen = BitVec.ofNat 8 (roundup4 u.data.length) := by
  rw [← toNat_fdlen_unitRead hle]
  rfl

/-- What the transform writes, for a unit (45_pipeline.md R216). -/
theorem afterTransform_unitRead (hle : u.data.length ≤ 251) :
    afterTransform (unitRead u n rest hi wi s) =
      { unitRead u n rest hi wi s with
        seq := .recomp, buf := (afterTransform (unitRead u n rest hi wi s)).buf
        fdlen := BitVec.ofNat 8 (roundup4 u.data.length), fcrc := crc32 u.postData
        crcreg := crcRegister Config.crcInit u.postData } := by
  rw [← bytes_afterTransform_unitRead (n := n) (rest := rest) (hi := hi) (wi := wi) (s := s) hle,
    ← fdlen_afterPad_unitRead (n := n) (rest := rest) (hi := hi) (wi := wi) (s := s) hle]
  exact afterTransform_eq _

/-- The record of POST of a unit (45_pipeline.md R210). -/
theorem postRecordOf_unitRead (hle : u.data.length ≤ 251) :
    postRecordOf (unitRead u n rest hi wi s) = u.postRecord := by
  rw [postRecordOf, snapshotOf, bytes_afterTransform_unitRead hle, afterTransform_unitRead hle]
  rfl

/-- A unit that is read, transformed and delivered; `w` holds the working registers and BUF. -/
def unitDone (u : FrameUnit) (n : Nat) (rest : List Byte) (w s : State) : State :=
  { taken n rest s with
    buf := w.buf, k := w.k, acc := w.acc, hi := w.hi, wi := w.wi, seq := .emit
    nf := s.nf + 1#32, pending := none, ftype := u.type, fplen := BitVec.ofNat 8 (u.data.length + 4)
    fdlen := BitVec.ofNat 8 (roundup4 u.data.length), fcrc := crc32 u.postData
    crcreg := crcRegister Config.crcInit u.postData, mask := u.mask, frames := s.frames + 1#32
    delivered := s.delivered ++ [u.preRecord, u.postRecord] }

theorem transformed_unitRead (hle : u.data.length ≤ 251) :
    transformed (unitRead u n rest hi wi s) = unitDone u n rest (transformed (unitRead u n rest hi wi s)) s := by
  rw [transformed, snapshotOf_unitRead hle, postRecordOf_unitRead hle, afterTransform_unitRead hle]
  rfl

theorem buf_transformed (s : State) : (transformed s).buf = (afterTransform s).buf := rfl

theorem length_postData (u : FrameUnit) : u.postData.length = roundup4 u.data.length := by
  have hle := le_roundup4 u.data.length
  rw [FrameUnit.postData, maskBytes, List.length_mapIdx, padBytes, List.length_append, List.length_replicate]
  omega

/-- BUF after a unit: its bytes from index 0, and the bytes it began with behind them (45_pipeline.md R216). -/
theorem byteAt_transformed_unitRead (hle : u.data.length ≤ 251) (a : Nat) :
    (transformed (unitRead u n rest hi wi s)).buf.byteAt a = (u.postData[a]?).getD (s.buf.byteAt a) := by
  have hlen := toNat_fdlen_unitRead (n := n) (rest := rest) (hi := hi) (wi := wi) (s := s) hle
  have hn : (unitRead u n rest hi wi s).fdlen.toNat ≤ Config.bufSize := by rw [hlen]; exact hle.trans (by decide)
  rw [buf_transformed]
  rcases Nat.lt_or_ge a (roundup4 u.data.length) with hlt | hge
  · rw [← bytes_afterTransform_unitRead (n := n) (rest := rest) (hi := hi) (wi := wi) (s := s) hle,
      Memory.getElem?_bytes, toNat_fdlen_afterPad hn, hlen, if_pos hlt]
    rfl
  · have hdata : u.data.length ≤ a := (le_roundup4 _).trans hge
    rw [byteAt_afterTransform_of_le hn (by rw [hlen]; exact hge),
      List.getElem?_eq_none (by rw [length_postData]; exact hge)]
    refine (s.buf.byteAt_writeList_zero u.data a).trans ?_
    rw [List.getElem?_eq_none hdata]

/-- A unit through the pipeline, with a sink that accepts (45_pipeline.md R211). -/
theorem blockRun_unit {i : Instr} (hi : i = .frmOne ∨ i = .frmRun) (hr : Running i .hdr s) (hk : s.k = 0)
    (hready : s.sinkReady = true) (htext : isUnitText u cs) (ha : s.input.ahead = cs ++ rest) :
    ∃ w, blockRun (cs.length + 6) s = .next (afterFrame i (unitDone u cs.length rest w s)) ∧
      ∀ a, w.buf.byteAt a = (u.postData[a]?).getD (s.buf.byteAt a) := by
  have hle := htext.length_data_le
  obtain ⟨hi', wi, hread⟩ := blockRun_unitText hi hr hk htext ha
  have hcrc := congrArg crc32 (bytes_unitRead (n := cs.length) (rest := rest) (hi := hi') (wi := wi) (s := s) hle)
  have htransform := blockRun_transform (s := unitRead u cs.length rest hi' wi s) hi
    (hr.moved (standsIn_verify_iff.mpr hi) rfl rfl rfl)
    (by rw [toNat_fdlen_unitRead hle]; exact hle.trans (by decide)) hcrc hready
  rw [transformed_unitRead hle] at htransform
  exact ⟨_, (blockRun_add 6 hread).trans htransform, byteAt_transformed_unitRead hle⟩

end

/-! ## FRM.ONE and FRM.RUN -/

/-- A stream that begins with a unit has a header before its end. -/
theorem isUnitText.not_ended {u : FrameUnit} {cs rest : List Byte} {s : State} (h : isUnitText u cs)
    (ha : s.input.ahead = cs ++ rest) : ¬(s.input.ahead = [] ∧ s.input.ended = true) := fun hend => by
  have hlen := length_of_isUnitText h
  have hnil := (List.append_eq_nil_iff.mp (ha.symm.trans hend.1)).1
  simp [hnil] at hlen

/-- Settles O38: FRM.ONE starts, and one unit passes through the pipeline. -/
theorem frmOneTransformsOneFrame : Obligations.FrmOneTransformsOneFrame := by
  intro s u cs rest hs hbusy hcur hready htext ha
  have hr : Running .frmOne .hdr (enter .hdr { s with nf := 0#32 }) := ⟨hbusy, hcur ▸ decode_encode rfl, rfl, rfl⟩
  have hstart := (exec_header_of_exec (i := .frmOne) rfl hs).trans
    (beginHeader_of_open (s := { s with nf := 0#32 }) (htext.not_ended ha))
  obtain ⟨w, hrun, hbytes⟩ := blockRun_unit (.inl rfl) hr rfl hready htext ha
  exact ⟨length_of_isUnitText htext, _, _, hstart, hrun, rfl, hbytes⟩

/-- The end of a stream of units of `n` characters that FRM.RUN began in `s`: `t` is the state after its last step
(45_pipeline.md R214). -/
structure UnitsDone (us : List FrameUnit) (n : Nat) (s t : State) : Prop where
  status : t.status = { s.status with busy := false, done := true, eosf := true }
  errcode : t.errcode = s.errcode
  seq : t.seq = .idle
  result : t.result = s.nf + BitVec.ofNat 32 us.length
  frames : t.frames = s.frames + BitVec.ofNat 32 us.length
  delivered : t.delivered = s.delivered ++ us.flatMap fun u => [u.preRecord, u.postRecord]
  incnt : t.incnt = s.incnt + BitVec.ofNat 32 n
  input : t.input = { ahead := [], ended := true, pos := s.input.pos + n }

/-- No unit is left. -/
theorem UnitsDone.nil {s : State} (ha : s.input.ahead = []) (he : s.input.ended = true) :
    UnitsDone [] 0 s (finish { s with status := s.status.atEndOfStream, result := s.nf }) where
  status := rfl
  errcode := rfl
  seq := rfl
  result := (BitVec.add_zero _).symm
  frames := (BitVec.add_zero _).symm
  delivered := (List.append_nil _).symm
  incnt := (BitVec.add_zero _).symm
  input := by
    rw [← ha, ← he]
    rfl

/-- A unit before the others. -/
theorem UnitsDone.cons {us : List FrameUnit} {u : FrameUnit} {m n : Nat} {rest : List Byte} {w s t : State}
    (h : UnitsDone us n (enter .hdr (unitDone u m rest w s)) t) : UnitsDone (u :: us) (m + n) s t where
  status := h.status
  errcode := h.errcode
  seq := h.seq
  result := h.result.trans ((incnt_add_ofNat s.nf 1 us.length).trans (by rw [List.length_cons, Nat.add_comm]))
  frames := h.frames.trans ((incnt_add_ofNat s.frames 1 us.length).trans (by rw [List.length_cons, Nat.add_comm]))
  delivered := h.delivered.trans (List.append_assoc ..)
  incnt := h.incnt.trans (incnt_add_ofNat s.incnt m n)
  input := h.input.trans (congrArg (InPort.mk [] true) (Nat.add_assoc ..))

/-- FRM.RUN from a header on, over the units that are left (45_pipeline.md R214). -/
theorem blockRun_units {us : List FrameUnit} {cs : List Byte} {s : State} (hr : Running .frmRun .hdr s) (hk : s.k = 0)
    (hready : s.sinkReady = true) (htext : areUnitTexts us cs) (ha : s.input.ahead = cs) (he : s.input.ended = true) :
    ∃ t n, blockRun n s = .next t ∧ UnitsDone us cs.length s t := by
  induction us generalizing s cs with
  | nil =>
    obtain rfl : cs = [] := htext
    exact ⟨_, 1, hr.blockRun_succ (.endOfStream hr.seq hk ha he) 0, .nil ha he⟩
  | cons u us ih =>
    obtain ⟨a, b, rfl, hunit, hrest⟩ := htext
    obtain ⟨w, hrun, -⟩ := blockRun_unit (.inr rfl) hr hk hready hunit ha
    obtain ⟨t, n, hunits, hdone⟩ := ih (s := enter .hdr (unitDone u a.length b w s)) (hr.moved rfl rfl rfl rfl) rfl
      hready hrest rfl he
    exact ⟨t, _, (blockRun_add n hrun).trans hunits, List.length_append ▸ hdone.cons⟩

/-- Settles O39: FRM.RUN starts, and every unit passes; the empty stream is done at the start. -/
theorem frmRunTransformsEveryFrameOfTheStream : Obligations.FrmRunTransformsEveryFrameOfTheStream := by
  intro s us cs hs hbusy hcur hready htext ha he
  have hstart := exec_header_of_exec (i := .frmRun) rfl hs
  have hdone : ∃ t0 t n, exec .frmRun s = .next t0 ∧ blockRun n t0 = .next t ∧
      UnitsDone us cs.length (enter .hdr { s with nf := 0#32 }) t := by
    cases us with
    | nil =>
      obtain rfl : cs = [] := htext
      exact ⟨_, _, 0, hstart.trans (beginHeader_of_eos (s := { s with nf := 0#32 }) ha he), rfl,
        .nil (s := enter .hdr { s with nf := 0#32 }) ha he⟩
    | cons u us =>
      obtain ⟨a, b, rfl, hunit, hrest⟩ := htext
      have hr : Running .frmRun .hdr (enter .hdr { s with nf := 0#32 }) := ⟨hbusy, hcur ▸ decode_encode rfl, rfl, rfl⟩
      obtain ⟨t, n, hrun, hunits⟩ := blockRun_units (us := u :: us) hr rfl hready ⟨a, b, rfl, hunit, hrest⟩ ha he
      exact ⟨_, t, n, hstart.trans (beginHeader_of_open (s := { s with nf := 0#32 }) (hunit.not_ended ha)), hrun,
        hunits⟩
  obtain ⟨t0, t, n, hexec, hrun, hunits⟩ := hdone
  exact ⟨t0, t, n, hexec, hrun, hunits.status, hunits.errcode, hunits.seq, hunits.result.trans (BitVec.zero_add _),
    hunits.frames, hunits.delivered, hunits.incnt, hunits.input⟩

end Sys2Proof.Machine
end

section
/-!
PROOFS. FRM.RUN reads no register and no BUF byte of an earlier frame before it writes it (45_pipeline.md R217): two
runs that begin with different ones stay the same outside them.
-/

namespace Sys2Proof.Machine

/-! ## Two runs -/

/-- `s` with the frame registers, BUF, CRCREG and RESULT of `v`. -/
def withFrame (v s : State) : State :=
  { s with
    buf := v.buf, ftype := v.ftype, fplen := v.fplen, fdlen := v.fdlen, fcrc := v.fcrc, mask := v.mask
    crcreg := v.crcreg, result := v.result }

/-- How much of its frame a stage finds written: 1 the type, 2 the length too, 3 the data, 4 the checksum, 5 the
mask (43_frame_decoder.md, section 1). -/
def SeqState.written : SeqState → Nat
  | .idle | .exec | .hexstr | .hdr | .type => 0
  | .len => 1
  | .payload => 2
  | .cksum => 3
  | .mhdr | .mval => 4
  | .verify | .pad | .mask | .recomp | .emit => 5

/-- `v` has what the frame that `s` is in has written; and nothing faults in the stage of `s`. -/
structure Agrees (v s : State) : Prop where
  ftype : 1 ≤ s.seq.written → v.ftype = s.ftype
  length : 2 ≤ s.seq.written → v.fplen = s.fplen ∧ v.fdlen = s.fdlen ∧ s.fdlen.toNat ≤ Config.bufSize
  data : 3 ≤ s.seq.written → ∀ a < s.fdlen.toNat, v.buf.byteAt a = s.buf.byteAt a
  fcrc : 4 ≤ s.seq.written → v.fcrc = s.fcrc
  mask : 5 ≤ s.seq.written → v.mask = s.mask
  stored : s.seq = .payload → s.wi < s.fdlen.toNat ∧ ∀ a < s.wi, v.buf.byteAt a = s.buf.byteAt a
  pending : s.seq = .emit → s.pending ≠ none

section
variable {v s t : State}

/-- Before the type is read nothing has to agree. -/
theorem agrees_of_written_eq_zero (h : t.seq.written = 0) : Agrees v t := by
  constructor
  case stored | pending =>
    intro hs
    rw [hs] at h
    cases h
  all_goals
    intro hw
    omega

/-- A step that writes nothing of the frame. -/
theorem Agrees.of_withFrame (h : Agrees v s) (hframe : withFrame s t = t) (hw : t.seq.written ≤ s.seq.written)
    (hstored : t.seq = .payload → s.seq = .payload ∧ t.wi = s.wi) (hpending : t.seq = .emit → t.pending ≠ none) :
    Agrees v t := by
  rw [← hframe]
  refine ⟨fun hl => h.ftype (hl.trans hw), fun hl => h.length (hl.trans hw), fun hl => h.data (hl.trans hw),
    fun hl => h.fcrc (hl.trans hw), fun hl => h.mask (hl.trans hw), fun hs => ?_, hpending⟩
  obtain ⟨hs', hwi⟩ := hstored hs
  change t.wi < _ ∧ ∀ a < t.wi, _
  rw [hwi]
  exact h.stored hs'

theorem Agrees.canMove (h : Agrees v s) (hst : standsIn .frmRun s.seq = true) : s.canMove := by
  refine ⟨?_, fun hs => ?_, h.pending⟩
  · rintro (hs | hs)
    · exact (h.stored hs).1.trans_le (h.length (by rw [hs]; decide)).2.2
    · rw [hs] at hst
      cases hst
  · exact (h.length (by rcases hs with hs | hs | hs | hs <;> rw [hs] <;> decide)).2.2

/-- From Verify on the whole frame agrees. -/
theorem Agrees.all (h : Agrees v s) (hw : 5 ≤ s.seq.written) :
    v.ftype = s.ftype ∧ (v.fplen = s.fplen ∧ v.fdlen = s.fdlen ∧ s.fdlen.toNat ≤ Config.bufSize) ∧
      (∀ a < s.fdlen.toNat, v.buf.byteAt a = s.buf.byteAt a) ∧ v.fcrc = s.fcrc ∧ v.mask = s.mask :=
  ⟨h.ftype (by omega), h.length (by omega), h.data (by omega), h.fcrc (by omega), h.mask hw⟩

/-- Both payloads are the same bytes once they are read. -/
theorem Agrees.bytes_eq (h : Agrees v s) (hw : 3 ≤ s.seq.written) :
    v.buf.bytes v.fdlen.toNat = s.buf.bytes s.fdlen.toNat := by
  obtain ⟨-, hlen, -⟩ := h.length (Nat.le_of_succ_le hw)
  rw [hlen, Memory.bytes_congr (h.data hw)]

/-- What both runs write at the same index. -/
theorem byteAt_write_congr {m m' : Memory} {n : Nat} (h : ∀ a < n, m.byteAt a = m'.byteAt a) (b : Byte) :
    ∀ a < n + 1, (m.write n b).byteAt a = (m'.write n b).byteAt a := by
  intro a ha
  rw [Memory.byteAt_write, Memory.byteAt_write]
  split
  · rfl
  · exact h a (by omega)

/-- The record of both runs is the same if it is taken of the same values. -/
theorem callEmit_withFrame {kind : SnapKind} {n n' : Nat} (h : snapshotOf kind v n' = snapshotOf kind s n) :
    callEmit kind (withFrame v s) n' = withFrame v (callEmit kind s n) :=
  congrArg (fun p => { withFrame v s with seq := .emit, pending := some p }) h

theorem Agrees.step_verifyPasses (h : Agrees v s) (hs : s.seq = .verify) (hn : s.fdlen.toNat ≤ Config.bufSize)
    (hcrc : crc32 (s.buf.bytes s.fdlen.toNat) = s.fcrc) :
    ∃ w, Moves .frmRun (withFrame v s) (withFrame w (callEmit .pre (atCompare s.result s) s.fdlen.toNat)) ∧
      Agrees w (callEmit .pre (atCompare s.result s) s.fdlen.toNat) := by
  have hw : 5 ≤ s.seq.written := by rw [hs]; rfl
  obtain ⟨hftype, ⟨hfplen, hfdlen, hle⟩, hdata, hfcrc, hmask⟩ := h.all hw
  have hbytes := h.bytes_eq (by omega)
  have hrecord : snapshotOf .pre (crcOverBuf v.fdlen.toNat v) v.fdlen.toNat =
      snapshotOf .pre (atCompare s.result s) s.fdlen.toNat := by
    simp [snapshotOf, atCompare, hftype, hfplen, hfdlen, hfcrc, ← hbytes]
  refine ⟨crcOverBuf v.fdlen.toNat v, ?_,
    ⟨fun _ => hftype, fun _ => ⟨hfplen, hfdlen, hle⟩, fun _ => hdata, fun _ => hfcrc, fun _ => hmask, nofun, nofun⟩⟩
  rw [← callEmit_withFrame hrecord]
  exact .verifyPasses hs (hfdlen ▸ hn) (by rw [← hbytes, ← hfcrc] at hcrc; exact hcrc)

theorem Agrees.step_pads (h : Agrees v s) (hs : s.seq = .pad) (hn : s.fdlen.toNat ≤ Config.bufSize) :
    ∃ w, Moves .frmRun (withFrame v s) (withFrame w (enter .mask (afterPad s))) ∧
      Agrees w (enter .mask (afterPad s)) := by
  obtain ⟨hftype, ⟨hfplen, hfdlen, hle⟩, hdata, hfcrc, hmask⟩ := h.all (by rw [hs]; rfl)
  have hpadded := toNat_fdlen_afterPad hn
  refine ⟨afterPad v, .pads hs (hfdlen ▸ hn), ⟨fun _ => hftype, fun _ => ⟨hfplen, ?fdlen, ?le⟩, fun _ a ha => ?bytes,
    fun _ => hfcrc, fun _ => hmask, nofun, nofun⟩⟩
  case fdlen =>
    change BitVec.ofNat 8 (roundup4 v.fdlen.toNat) = BitVec.ofNat 8 (roundup4 s.fdlen.toNat)
    rw [hfdlen]
  case le => exact hpadded.trans_le (roundup4_le hn)
  case bytes =>
    change (afterPad v).buf.byteAt a = (afterPad s).buf.byteAt a
    rw [byteAt_afterPad, byteAt_afterPad, hfdlen]
    have ha' : a < roundup4 s.fdlen.toNat := hpadded ▸ ha
    by_cases hin : s.fdlen.toNat ≤ a
    · rw [if_pos ⟨hin, ha'⟩, if_pos ⟨hin, ha'⟩]
    · rw [if_neg (by omega), if_neg (by omega), hdata a (by omega)]

theorem Agrees.step_masks (h : Agrees v s) (hs : s.seq = .mask) (hn : s.fdlen.toNat ≤ Config.bufSize) :
    ∃ w, Moves .frmRun (withFrame v s) (withFrame w (enter .recomp (afterMask s))) ∧
      Agrees w (enter .recomp (afterMask s)) := by
  obtain ⟨hftype, ⟨hfplen, hfdlen, hle⟩, hdata, hfcrc, hmask⟩ := h.all (by rw [hs]; rfl)
  refine ⟨afterMask v, .masks hs (hfdlen ▸ hn), ⟨fun _ => hftype, fun _ => ⟨hfplen, hfdlen, hle⟩, fun _ a ha => ?_,
    fun _ => hfcrc, fun _ => hmask, nofun, nofun⟩⟩
  change (afterMask v).buf.byteAt a = (afterMask s).buf.byteAt a
  rw [byteAt_afterMask, byteAt_afterMask, hfdlen, hmask, hdata a ha]

theorem Agrees.step_recomputes (h : Agrees v s) (hs : s.seq = .recomp) (hn : s.fdlen.toNat ≤ Config.bufSize) :
    ∃ w, Moves .frmRun (withFrame v s) (withFrame w (callEmit .post (afterRecompute s) s.fdlen.toNat)) ∧
      Agrees w (callEmit .post (afterRecompute s) s.fdlen.toNat) := by
  have hw : 5 ≤ s.seq.written := by rw [hs]; rfl
  obtain ⟨hftype, ⟨hfplen, hfdlen, hle⟩, hdata, -, hmask⟩ := h.all hw
  have hbytes := h.bytes_eq (by omega)
  have hfcrc : (afterRecompute v).fcrc = (afterRecompute s).fcrc := congrArg crc32 hbytes
  have hrecord : snapshotOf .post (afterRecompute v) v.fdlen.toNat =
      snapshotOf .post (afterRecompute s) s.fdlen.toNat := by
    simp [snapshotOf, afterRecompute, hftype, hfplen, hfdlen, ← hbytes]
  refine ⟨afterRecompute v, ?_,
    ⟨fun _ => hftype, fun _ => ⟨hfplen, hfdlen, hle⟩, fun _ => hdata, fun _ => hfcrc, fun _ => hmask, nofun, nofun⟩⟩
  rw [← callEmit_withFrame hrecord]
  exact .recomputes hs (hfdlen ▸ hn)

/-- Both runs take the same step, and what the frame has written still agrees. -/
theorem Agrees.step (h : Agrees v s) (hm : Moves .frmRun s t) :
    ∃ w, Moves .frmRun (withFrame v s) (withFrame w t) ∧ Agrees w t := by
  cases hm with
  | waitsForPort hs ha he => exact ⟨v, .waitsForPort hs ha he, h⟩
  | waitsForSink hs hp hr => exact ⟨v, .waitsForSink hs hp hr, h⟩
  | endOfStream hs hk ha he =>
    exact ⟨{ v with result := s.nf }, .endOfStream hs hk ha he, agrees_of_written_eq_zero rfl⟩
  | shortRead hs hk ha he => exact ⟨v, .shortRead hs hk ha he, agrees_of_written_eq_zero rfl⟩
  | wrongByte hs ha hm => exact ⟨v, .wrongByte hs ha hm, agrees_of_written_eq_zero rfl⟩
  | noDigit hs ha hv => exact ⟨v, .noDigit hs ha hv, agrees_of_written_eq_zero rfl⟩
  | markerByte hs ha hm hk =>
    exact ⟨v, .markerByte hs ha hm hk, h.of_withFrame rfl le_rfl (fun hs => ⟨hs, rfl⟩) h.pending⟩
  | highDigit hs ha hv hk =>
    exact ⟨v, .highDigit hs ha hv hk, h.of_withFrame rfl le_rfl (fun hs => ⟨hs, rfl⟩) h.pending⟩
  | wordDigit hs ha hv hk =>
    exact ⟨v, .wordDigit hs ha hv hk, h.of_withFrame rfl le_rfl (fun hs => ⟨hs, rfl⟩) h.pending⟩
  | markerDone hs ha hm hk =>
    refine ⟨v, .markerDone hs ha hm hk, ?_⟩
    rcases SeqState.marker?_eq_some_iff.mp hs with ⟨hs, -⟩ | ⟨hs, -⟩ <;> rw [hs]
    · exact agrees_of_written_eq_zero rfl
    · exact h.of_withFrame rfl (by rw [hs]; rfl) nofun nofun
  | @typeDone c rest n hs ha hv hk =>
    exact ⟨{ v with ftype := s.hi ++ n }, .typeDone hs ha hv hk,
      ⟨fun _ => rfl, nofun, nofun, nofun, nofun, nofun, nofun⟩⟩
  | @lengthTooShort c rest n hs ha hv hk hlen =>
    exact ⟨{ v with fplen := s.hi ++ n }, .lengthTooShort hs ha hv hk hlen, agrees_of_written_eq_zero rfl⟩
  | @lengthOfNoData c rest n hs ha hv hk hlen =>
    have hzero : (s.hi ++ n - 4#8).toNat = 0 := by rw [toNat_sub_four hlen.ge, hlen]
    refine ⟨{ v with fplen := s.hi ++ n, fdlen := s.hi ++ n - 4#8 }, .lengthOfNoData hs ha hv hk hlen,
      ⟨fun _ => h.ftype (by rw [hs]; rfl), fun _ => ⟨rfl, rfl, hzero.trans_le (Nat.zero_le _)⟩, fun _ a ha => ?_,
        nofun, nofun, nofun, nofun⟩⟩
    exact absurd (hzero ▸ ha) (Nat.not_lt_zero a)
  | @lengthDone c rest n hs ha hv hk hlen =>
    have hlt : (s.hi ++ n).toNat < 256 := (s.hi ++ n).isLt
    have hfdlen : (s.hi ++ n - 4#8).toNat = (s.hi ++ n).toNat - 4 := toNat_sub_four hlen.le
    have hle : (s.hi ++ n - 4#8).toNat ≤ Config.bufSize := by rw [hfdlen, Config.bufSize]; omega
    have hpos : 0 < (s.hi ++ n - 4#8).toNat := by omega
    exact ⟨{ v with fplen := s.hi ++ n, fdlen := s.hi ++ n - 4#8 }, .lengthDone hs ha hv hk hlen,
      ⟨fun _ => h.ftype (by rw [hs]; rfl), fun _ => ⟨rfl, rfl, hle⟩, nofun, nofun, nofun,
        fun _ => ⟨hpos, nofun⟩, nofun⟩⟩
  | @payloadByte c rest n hs ha hv hk hw hmore =>
    obtain ⟨hfplen, hfdlen, hle⟩ := h.length (by rw [hs]; rfl)
    obtain ⟨hlt, hbytes⟩ := h.stored hs
    have htwo : (storedPair n rest s).seq.written = 2 := by rw [show (storedPair n rest s).seq = .payload from hs]; rfl
    exact ⟨{ v with buf := v.buf.write s.wi (s.hi ++ n) },
      .payloadByte hs ha hv hk hw (by rw [← hfdlen] at hmore; exact hmore),
      ⟨fun _ => h.ftype (by rw [hs]; decide), fun _ => ⟨hfplen, hfdlen, hle⟩, fun hl => absurd (htwo ▸ hl) (by decide),
        fun hl => absurd (htwo ▸ hl) (by decide), fun hl => absurd (htwo ▸ hl) (by decide),
        fun _ => ⟨Nat.lt_of_le_of_ne hlt hmore, byteAt_write_congr hbytes _⟩, h.pending⟩⟩
  | @payloadDone c rest n hs ha hv hk hw hlast =>
    obtain ⟨hfplen, hfdlen, hle⟩ := h.length (by rw [hs]; rfl)
    obtain ⟨hlt, hbytes⟩ := h.stored hs
    have hall := byteAt_write_congr hbytes (s.hi ++ n)
    rw [hlast] at hall
    exact ⟨{ v with buf := v.buf.write s.wi (s.hi ++ n) },
      .payloadDone hs ha hv hk hw (by rw [← hfdlen] at hlast; exact hlast),
      ⟨fun _ => h.ftype (by rw [hs]; decide), fun _ => ⟨hfplen, hfdlen, hle⟩, fun _ => hall, nofun, nofun, nofun,
        nofun⟩⟩
  | @checksumDone c rest n hs ha hv hk =>
    exact ⟨{ v with fcrc := wordWith n s }, .checksumDone hs ha hv hk,
      ⟨fun _ => h.ftype (by rw [hs]; decide), fun _ => h.length (by rw [hs]; decide),
        fun _ => h.data (by rw [hs]; decide), fun _ => rfl, nofun, nofun, nofun⟩⟩
  | @maskDone c rest n hs ha hv hk =>
    exact ⟨{ v with mask := wordWith n s }, .maskDone hs ha hv hk,
      ⟨fun _ => h.ftype (by rw [hs]; decide), fun _ => h.length (by rw [hs]; decide),
        fun _ => h.data (by rw [hs]; decide), fun _ => h.fcrc (by rw [hs]; decide), fun _ => rfl, nofun, nofun⟩⟩
  | verifyPasses hs hn hcrc => exact h.step_verifyPasses hs hn hcrc
  | verifyFails hs hn hcrc =>
    have hw : 5 ≤ s.seq.written := by rw [hs]; rfl
    obtain ⟨-, ⟨-, hfdlen, -⟩, -, hfcrc, -⟩ := h.all hw
    exact ⟨crcOverBuf v.fdlen.toNat v, .verifyFails hs (hfdlen ▸ hn) (by
      rw [← h.bytes_eq (by omega), ← hfcrc] at hcrc
      exact hcrc), agrees_of_written_eq_zero rfl⟩
  | deliversPre hs hp hkind hr =>
    exact ⟨v, .deliversPre hs hp hkind hr, h.of_withFrame rfl (by rw [hs]; rfl) nofun nofun⟩
  | deliversPost hs hp hkind hr => exact ⟨v, .deliversPost hs hp hkind hr, agrees_of_written_eq_zero rfl⟩
  | pads hs hn => exact h.step_pads hs hn
  | masks hs hn => exact h.step_masks hs hn
  | recomputes hs hn => exact h.step_recomputes hs hn
  | stringByte hi => cases hi
  | stringDone hi => cases hi

end

/-- FRM.RUN in one of its stages, or a block that is idle. -/
def RunsOrIdle (s : State) : Prop :=
  s.status.busy = true → decode s.cur = .ok .frmRun ∧ standsIn .frmRun s.seq = true

theorem RunsOrIdle.step {s t : State} (h : RunsOrIdle s) (hbusy : s.status.busy = true) (hm : Moves .frmRun s t) :
    RunsOrIdle t := by
  obtain ⟨hd, hst⟩ := h hbusy
  obtain ⟨hcur, -⟩ := hm.keeps
  intro hbusy'
  refine ⟨by rw [hcur, hd], ?_⟩
  rcases hm.outcome hst with ⟨-, -, hon⟩ | ⟨-, -, hs | hs⟩ | ⟨e, st, -, hs, -⟩
  · exact hon
  all_goals
    rw [hs] at hbusy'
    cases hbusy'

/-- Two runs that agree on what their frame has written make the same steps (45_pipeline.md R217). -/
theorem blockRun_withFrame (n : Nat) {v s : State} (hrun : RunsOrIdle s) (h : Agrees v s) :
    ∃ w t, blockRun n s = .next t ∧ blockRun n (withFrame v s) = .next (withFrame w t) := by
  induction n generalizing v s with
  | zero => exact ⟨v, s, rfl, rfl⟩
  | succ n ih =>
    cases hbusy : s.status.busy with
    | false =>
      obtain ⟨w, t, ht, hw⟩ := ih hrun h
      exact ⟨w, t, (blockRun_succ n (blockStep_of_idle hbusy)).trans ht,
        (blockRun_succ n (blockStep_of_idle (s := withFrame v s) hbusy)).trans hw⟩
    | true =>
      obtain ⟨hd, hst⟩ := hrun hbusy
      obtain ⟨s', hm⟩ := exists_moves hst (h.canMove hst)
      obtain ⟨v', hm', h'⟩ := h.step hm
      obtain ⟨w, t, ht, hw⟩ := ih (hrun.step hbusy hm) h'
      exact ⟨w, t, (Running.mk hbusy hd hst rfl).blockRun_succ hm n |>.trans ht,
        (Running.mk (s := withFrame v s) hbusy hd hst rfl).blockRun_succ hm' n |>.trans hw⟩

/-- Settles O40: at a header nothing of the frame has to agree. -/
theorem frmRunDoesNotDependOnEarlierFrames : Obligations.FrmRunDoesNotDependOnEarlierFrames := by
  intro s buf ftype fplen fdlen fcrc mask crcreg result n hbusy hcur hs _
  have hrun : RunsOrIdle s := fun _ => ⟨hcur ▸ decode_encode rfl, by rw [hs]; rfl⟩
  obtain ⟨w, t, ht, hw⟩ := blockRun_withFrame n hrun
    (v := { s with buf := buf, ftype := ftype, fplen := fplen, fdlen := fdlen, fcrc := fcrc, mask := mask,
                   crcreg := crcreg, result := result }) (agrees_of_written_eq_zero (by rw [hs]; rfl))
  exact ⟨t, withFrame w t, ht, hw, rfl, rfl, rfl, rfl, rfl, rfl, rfl⟩

end Sys2Proof.Machine
end
